-- ==== Sys2Proof/Word.lean ====
section
/-! DEFINITION. The two word types of the codec (spec/00_scope.md R9, R12). -/

namespace Sys2Proof

/-- A byte, `0 .. 255` (R9, R12). -/
abbrev Byte := BitVec 8

/-- The payload word `q` and every other 16-bit word (R9, R12). -/
abbrev Word16 := BitVec 16

end Sys2Proof
end

