-- ==== Sys2Proof/Syntax.lean ====
section
/-! DEFINITION. What the agents say to the block: the eight commands and their requests (R82, R84, R201), the stimuli of the other
agents (R85, R217), and what the line sees of the block (R56). -/

namespace Sys2Proof

/-- The closed enumeration of eight commands, in the order of the command map (30_encoding.md R82). -/
inductive Cmd where
  | readTemp | readTempLine | readSerial | readFw | readEmi | writeEmi | readTrans | writeTrans
deriving DecidableEq, Repr

/-- A request, one constructor per row of opcode_table.json. Each carries the word `q` on the request input `req_q[15:0]`: ACCEPT
latches it for every command (43_exchange_fsm.md R201), only the two writes read it (10_state.md R28); log 5. -/
inductive Instr where
  | readTemp (q : Word16)
  | readTempLine (q : Word16)
  | readSerial (q : Word16)
  | readFw (q : Word16)
  | readEmi (q : Word16)
  | writeEmi (q : Word16)
  | readTrans (q : Word16)
  | writeTrans (q : Word16)
deriving DecidableEq, Repr

/-- The command a request names. -/
def Instr.cmd : Instr → Cmd
  | .readTemp _ => .readTemp
  | .readTempLine _ => .readTempLine
  | .readSerial _ => .readSerial
  | .readFw _ => .readFw
  | .readEmi _ => .readEmi
  | .writeEmi _ => .writeEmi
  | .readTrans _ => .readTrans
  | .writeTrans _ => .writeTrans

/-- The word on `req_q` beside the command. -/
def Instr.q : Instr → Word16
  | .readTemp q => q
  | .readTempLine q => q
  | .readSerial q => q
  | .readFw q => q
  | .readEmi q => q
  | .writeEmi q => q
  | .readTrans q => q
  | .writeTrans q => q

/-- The request port while `req_valid = 1`: `req_cmd[2:0]` and `req_q[15:0]` (43_exchange_fsm.md R217). -/
structure Request where
  cmd : BitVec 3
  q : Word16
deriving DecidableEq, Repr

/-- `CFG_MODE` (10_state.md R22). -/
inductive CfgMode where
  | single | line
deriving DecidableEq, Repr

/-- `ECHO_ORDER` (00_scope.md R10). -/
inductive EchoOrder where
  | same | reversed
deriving DecidableEq, Repr

/-- One move of an agent, or the chance for the FSM to move: the inputs of R217 as the stimuli of R85. `fsm` lets the FSM take a
step that needs no input (accept of a presented request, ARM, WAIT check, CLOSE); the step of a waiting state comes with its own
event (`openAns`, `txReady`, `tick`). Log 1. -/
inductive Stimulus where
  /-- `rst` asserted (R270). -/
  | rst
  /-- `cfg_valid` with the port bits `cfg_mode`, `cfg_addr`, `cfg_amask` (R217), and the answer the line will give if the probe asks
  (R271, R273). -/
  | config (mode : BitVec 1) (addr : BitVec 3) (amask : BitVec 4) (probeOk : Bool)
  /-- The client drives the request port (R217). -/
  | request (r : Request)
  /-- The line answers the open request with `open_ok` (R203). -/
  | openAns (ok : Bool)
  /-- The transmitter takes a byte: `tx_ready = 1` (R205). -/
  | txReady
  /-- The line delivers a byte (R160). -/
  | rx (b : Byte)
  /-- A poll tick (R207). -/
  | tick
  /-- The FSM moves by itself. -/
  | fsm
deriving DecidableEq, Repr

/-- What the line sees of the block: the two side effects of 20_memory.md R56 (the open request raised and lowered with DTR and
RTS, and a byte handed to the transmitter). -/
inductive LineAct where
  | raiseOpen
  | lowerOpen
  | tx (b : Byte)
deriving DecidableEq, Repr

end Sys2Proof
end

