-- ==== Sys2Proof/Decode.lean ====
section
/-! DEFINITION. The client command code (30_encoding.md R82, R84): decoding of the request port, and of a request laid out as bytes
(log 4); then the encoder. -/

namespace Sys2Proof

/-- R82's `req_cmd` column: the code of each command. -/
def Cmd.code : Cmd → BitVec 3
  | .readTemp => 0
  | .readTempLine => 1
  | .readSerial => 2
  | .readFw => 3
  | .readEmi => 4
  | .writeEmi => 5
  | .readTrans => 6
  | .writeTrans => 7

/-- Decoding "matches all three bits exactly (mask 0b111)" (R84), bit 2 first; "All eight values of `req_cmd` are assigned" (R83). -/
def Cmd.ofCode (c : BitVec 3) : Cmd :=
  match c.getLsbD 2, c.getLsbD 1, c.getLsbD 0 with
  | false, false, false => .readTemp
  | false, false, true => .readTempLine
  | false, true, false => .readSerial
  | false, true, true => .readFw
  | true, false, false => .readEmi
  | true, false, true => .writeEmi
  | true, true, false => .readTrans
  | true, true, true => .writeTrans

/-- The request the port carries. Every port value is a request (R83). -/
def decode (r : Request) : Instr :=
  match Cmd.ofCode r.cmd with
  | .readTemp => .readTemp r.q
  | .readTempLine => .readTempLine r.q
  | .readSerial => .readSerial r.q
  | .readFw => .readFw r.q
  | .readEmi => .readEmi r.q
  | .writeEmi => .writeEmi r.q
  | .readTrans => .readTrans r.q
  | .writeTrans => .writeTrans r.q

/-- Why bytes are no request. -/
inductive DecodeError where
  /-- A request is three bytes (log 4). -/
  | wrongLength (n : Nat)
deriving DecidableEq, Repr

/-- The port's value from its image of three bytes: byte 0 holds `req_cmd` in bits 2:0 (bits 7:3 drive no pin: opcode_table.json's
mask is 7), bytes 1 and 2 hold `req_q[7:0]` and `req_q[15:8]`. DESIGN CHOICE (log 4). -/
def Request.ofBytes : List Byte → Except DecodeError Request
  | [b0, b1, b2] => .ok { cmd := b0.extractLsb' 0 3, q := b2 ++ b1 }
  | bs => .error (.wrongLength bs.length)

/-- The request three bytes stand for; any other number of bytes is rejected by name. -/
def decodeBytes (bs : List Byte) : Except DecodeError Instr :=
  match Request.ofBytes bs with
  | .ok r => .ok (decode r)
  | .error e => .error e

/-- Byte `k` of a word of `nbits` bits, bits at `nbits` and above taken as 0. -/
def tableByte (nbits w k : Nat) : Byte := BitVec.ofNat 8 (w % 2 ^ nbits / 256 ^ k)

/-- The bytes of a table row's word, first byte lowest, filled up with zero operand bytes to a request's three. -/
def tableBytes (nbits w : Nat) : List Byte :=
  (List.range (max 3 ((nbits + 7) / 8))).map (tableByte nbits w)

/-- The instruction the decoder reads from a row's word, numbered as opcode_table.json numbers it. -/
def decodeTableWord (nbits w : Nat) : Option Instr :=
  match decodeBytes (tableBytes nbits w) with
  | .ok i => some i
  | .error _ => none

/-- The port's value for a request (R82, R84, R201). -/
def encode (i : Instr) : Request := { cmd := i.cmd.code, q := i.q }

/-- The three bytes of a request, with any padding in bits 7:3 of the first (log 4). -/
def encodeBytes (pad : BitVec 5) (i : Instr) : List Byte :=
  [pad ++ i.cmd.code, i.q.extractLsb' 0 8, i.q.extractLsb' 8 8]

end Sys2Proof
end

