-- ==== Sys2Proof/Config.lean ====
section
/-! DEFINITION. The constants the spec fixes (00_scope.md R5, R8), and the model's parameters (R6, R7, R10): those the spec leaves
open are opaque, so that a statement holds whatever they are; those with a default carry it. -/

namespace Sys2Proof

/-- The opcode byte of each command, R6: "a model parameter with no default", no distinctness assumed. FREE VALUE (log 9). -/
opaque Config.opc : Cmd → Byte

/-- Whether the firmware-version word is read as signed, R10: OPEN, no default. FREE VALUE (log 12). -/
opaque Config.fwSigned : Bool

/-- What the quantizer's rounding function gives for a number that is not an integer, R10, R77: OPEN. FREE VALUE (log 13). -/
opaque Config.qRoundOpen : ℚ → ℤ

/-- `LINE_MAX` of the empty mask: R12 gives `msb_index` for a non-zero mask only, and no configured machine holds an empty one.
FREE VALUE (log 14). -/
opaque Config.lineMaxOfEmpty : Byte

/-- `ADDR_BASE` (R5). -/
def Config.addrBase : Byte := 0xB0
/-- `BCAST`, the broadcast address (R5). -/
def Config.bcast : BitVec 3 := 0
/-- `N_DEV`, devices per line (R5). -/
def Config.nDev : Nat := 4
/-- `T_OFFSET`, the temperature raw offset (R5). -/
def Config.tOffset : Int := 1000
/-- `T_SCALE`, temperature units per degree Celsius (R5); dividing by it is the reader's (R165). -/
def Config.tScale : Nat := 10
/-- `R_SCALE`, ratio units per 1.0 (R5). -/
def Config.rScale : Nat := 1000
/-- `LEN_TEMP` (R5). -/
def Config.lenTemp : Nat := 2
/-- `LEN_SN` (R5). -/
def Config.lenSn : Nat := 3
/-- `LEN_FW` (R5). -/
def Config.lenFw : Nat := 2
/-- `LEN_RATIO` (R5, C2). -/
def Config.lenRatio : Nat := 2
/-- `RB_CAP = EXP_MAX = LEN_TEMP * N_DEV`, the response buffer's capacity (R9). -/
def Config.rbCap : Nat := 8

/-- The external link's facts that no rule depends on (R8): symbols a second, frame, handshake, timeouts of the opening verification. -/
structure LinkSettings where
  symbolRate : Nat
  dataBits : Nat
  parityBits : Nat
  stopBits : Nat
  handshake : Bool
  readTimeoutMs : Nat
  writeTimeoutMs : Nat
deriving DecidableEq, Repr

/-- R8's link: 115200 symbols a second, 8N1, no handshake, 500 ms timeouts. -/
def Config.link : LinkSettings :=
  { symbolRate := 115200, dataBits := 8, parityBits := 0, stopBits := 1, handshake := false,
    readTimeoutMs := 500, writeTimeoutMs := 500 }

/-- The eight opcode bytes as plain data, one per command (R6). -/
structure Opcodes where
  readTemp : Byte
  readTempLine : Byte
  readSerial : Byte
  readFw : Byte
  readEmi : Byte
  writeEmi : Byte
  readTrans : Byte
  writeTrans : Byte
deriving DecidableEq, Repr

/-- The parameters a machine is built with (R6, R7, R10). They stand in State as plain data, so that a statement over every state
is a statement over every choice of them (log 15). -/
structure Params where
  opc : Opcodes
  /-- `POLL_MS`, at least 1 (R7). -/
  pollMs : Nat
  /-- `TIMEOUT_MS` (R7). -/
  timeoutMs : Nat
  echoOrder : EchoOrder
  fwSigned : Bool
deriving DecidableEq, Repr

/-- The parameters of the machine after reset: the open ones free, the others at the spec's defaults (R7: 30 and 1000; R10: SAME).
Logs 9 to 12. -/
def Config.params : Params :=
  { opc :=
      { readTemp := Config.opc .readTemp, readTempLine := Config.opc .readTempLine,
        readSerial := Config.opc .readSerial, readFw := Config.opc .readFw,
        readEmi := Config.opc .readEmi, writeEmi := Config.opc .writeEmi,
        readTrans := Config.opc .readTrans, writeTrans := Config.opc .writeTrans }
    pollMs := 30
    timeoutMs := 1000
    echoOrder := .same
    fwSigned := Config.fwSigned }

end Sys2Proof
end

