-- ==== Sys2Proof/Machine/State.lean ====
section
/-! DEFINITION. The machine's state as plain data: every register of 10_state.md R21, and the model's own fields for what the other
agents hold; the two reason types; the state after reset (R37). -/

namespace Sys2Proof.Machine

/-- `CFG_STATUS` (10_state.md R25): UNCONFIGURED = 0, READY = 1, CONFIG_ERROR = 2; value 3 is never written. -/
inductive CfgStatus where
  | unconfigured | ready | configError
deriving DecidableEq, Repr

/-- `CFG_CAUSE` (R25): BAD_ADDR = 0, EMPTY_LIST = 1, PORT_UNUSABLE = 2; value 3 is never written. -/
inductive CfgCause where
  | badAddr | emptyList | portUnusable
deriving DecidableEq, Repr

/-- `ST` (R27): IDLE = 0, OPEN = 1, ARM = 2, SEND = 3, WAIT = 4, SLEEP = 5, CLOSE = 6; value 7 is never written. -/
inductive ExchState where
  | idle | opening | arm | send | wait | sleep | close
deriving DecidableEq, Repr

/-- `RES_KIND` (R33): OK = 0, FAIL = 1, REFUSED = 2; value 3 is never written. -/
inductive ResKind where
  | ok | fail | refused
deriving DecidableEq, Repr

/-- `FRAME[0..4]`, five bytes (R28). -/
structure FrameRegs where
  f0 : Byte
  f1 : Byte
  f2 : Byte
  f3 : Byte
  f4 : Byte
deriving DecidableEq, Repr

/-- The response buffer's bytes `RB[0..7]` (R32): a list of (address, byte) in one canonical form, `Memory.wf` of Machine/Ops.lean. -/
structure Memory where
  cells : List Host.Cell
deriving DecidableEq, Repr

/-- Everything the machine holds. -/
structure State where
  /-- `CFG_MODE` (R22). -/
  cfgMode : CfgMode
  /-- `CFG_ADDR` (R23). -/
  cfgAddr : BitVec 3
  /-- `CFG_AMASK` (R24): bit `i-1` set means address `i` is configured. -/
  cfgAmask : BitVec 4
  /-- `CFG_STATUS` (R25). -/
  cfgStatus : CfgStatus
  /-- `CFG_CAUSE` (R25). -/
  cfgCause : CfgCause
  /-- `ST` (R27). -/
  st : ExchState
  /-- `CUR_CMD` (R28), 3 bits, every value a command. -/
  curCmd : Cmd
  /-- `CUR_Q` (R28). -/
  curQ : Word16
  /-- `FRAME[0..4]` (R28). -/
  frame : FrameRegs
  /-- `FLEN` (R28). -/
  flen : BitVec 3
  /-- `TXI` (R28). -/
  txi : BitVec 3
  /-- `EXP` (R28). -/
  exp : BitVec 4
  /-- `ELAPSED`, a natural number of milliseconds (R29, D21). -/
  elapsed : Nat
  /-- `LINE_OPEN` (R30). -/
  lineOpen : Bool
  /-- `RX_EN` (R31). -/
  rxEn : Bool
  /-- `RB[0..7]` (R32). -/
  rb : Memory
  /-- `RLEN` (R32). -/
  rlen : BitVec 4
  /-- `ROVF` (R32). -/
  rovf : Bool
  /-- `RES_VALID` (R33). -/
  resValid : Bool
  /-- `RES_KIND` (R33). -/
  resKind : ResKind
  /-- `RES_CMD` (R33). -/
  resCmd : Cmd
  /-- MODEL's own: the parameters of R6, R7, R10, which no step changes (log 15). -/
  params : Params
  /-- MODEL's own: what the CLIENT drives on the request port (R217), none for `req_valid = 0` (log 3). -/
  reqPort : Option Request
  /-- MODEL's own: the agents' moves still to come, next first (log 1). -/
  stimuli : List Stimulus
  /-- MODEL's own: what the LINE has seen of the block, oldest first (R56, log 18). -/
  lineLog : List LineAct
deriving DecidableEq, Repr

/-- Why the machine stops. -/
inductive Fault where
  /-- Raised by SEND with a `TXI` of 5, 6 or 7: `FRAME` has no such byte (R28). No run from reset reaches it. Safe (log 17). -/
  | frameIndex (txi : BitVec 3)
deriving DecidableEq, Repr

/-- Why an instruction has no meaning. -/
inductive Refusal where
  /-- Raised by an arm of `exec` whose instruction has no meaning yet; no arm raises it now. Safe. -/
  | notModelled (mnemonic : String)
deriving DecidableEq, Repr

/-- What a step answers. -/
abbrev Result := Host.Outcome State Fault Refusal

/-- The machine after reset (R37, R270): `CFG_STATUS`, `ST`, `LINE_OPEN`, `RX_EN`, `RLEN`, `ROVF` and `RES_VALID` as the spec says;
every other register at the value log 7 names (DESIGN CHOICE); the model's own fields as logs 1, 3, 15 and 18 say. -/
def State.reset : State :=
  { cfgMode := .single, cfgAddr := 0, cfgAmask := 0, cfgStatus := .unconfigured, cfgCause := .badAddr
    st := .idle, curCmd := .readTemp, curQ := 0, frame := ⟨0, 0, 0, 0, 0⟩, flen := 0, txi := 0, exp := 0, elapsed := 0
    lineOpen := false, rxEn := false
    rb := ⟨[]⟩, rlen := 0, rovf := false
    resValid := false, resKind := .ok, resCmd := .readTemp
    params := Config.params, reqPort := none, stimuli := [], lineLog := [] }

end Sys2Proof.Machine
end

