-- ==== Sys2Proof/Machine/Ops.lean ====
section
/-! DEFINITION. The named operations of 00_scope.md R13 over the response buffer, the line, the result registers and the request
port; the arithmetic of R12; the codes of 60_exceptions.md R245 and 10_state.md R27. -/

namespace Sys2Proof.Machine

/-! ### Arithmetic of R12 -/

/-- `sint16(w)`: `w` if `w < 0x8000`, else `w - 65536` (R12). -/
def sint16 (w : Word16) : Int := if w.toNat < 0x8000 then (w.toNat : Int) else (w.toNat : Int) - 65536

/-- `popcount(m)` of a 4-bit mask (R12). -/
def popcount4 (m : BitVec 4) : Nat :=
  (m.getLsbD 0).toNat + (m.getLsbD 1).toNat + (m.getLsbD 2).toNat + (m.getLsbD 3).toNat

/-- `msb_index(m)` of a 4-bit mask; none for the empty mask, for which R12 gives no value. -/
def msbIndex4 (m : BitVec 4) : Option Nat :=
  if m.getLsbD 3 then some 3
  else if m.getLsbD 2 then some 2
  else if m.getLsbD 1 then some 1
  else if m.getLsbD 0 then some 0
  else none

/-- The big-endian integer of a byte sequence, `sum over k of s[k] * 256^(w-1-k)` (42_response_decoder.md R172). -/
def decodeInteger : List Byte → Nat
  | [] => 0
  | b :: bs => b.toNat * 256 ^ bs.length + decodeInteger bs

/-! ### Codes (R22, R25, R27, R33, R245) -/

/-- `CFG_MODE`'s one bit: SINGLE = 0, LINE = 1 (R22). -/
def modeCode : CfgMode → BitVec 1
  | .single => 0
  | .line => 1

/-- The mode the port's bit `cfg_mode` selects (R22, R217); each of the two values is one. -/
def modeOfCode (b : BitVec 1) : CfgMode := if b.getLsbD 0 then .line else .single

def CfgStatus.code : CfgStatus → BitVec 2
  | .unconfigured => 0
  | .ready => 1
  | .configError => 2

def CfgCause.code : CfgCause → BitVec 2
  | .badAddr => 0
  | .emptyList => 1
  | .portUnusable => 2

def ResKind.code : ResKind → BitVec 2
  | .ok => 0
  | .fail => 1
  | .refused => 2

def ExchState.code : ExchState → BitVec 3
  | .idle => 0
  | .opening => 1
  | .arm => 2
  | .send => 3
  | .wait => 4
  | .sleep => 5
  | .close => 6

/-! ### The response buffer's bytes (R32, R50) -/

/-- What an unlisted byte of RB reads as. DESIGN CHOICE: the spec leaves RB unspecified at reset (log 8). -/
def Memory.unlisted : Byte := 0

/-- The byte a list of cells holds at an address. -/
def cellByte : List Host.Cell → Nat → Byte
  | [], _ => Memory.unlisted
  | (k, v) :: r, a => if k = a then v else cellByte r a

/-- Store a byte in a list of cells, keeping the canonical form. -/
def cellStore : List Host.Cell → Nat → Byte → List Host.Cell
  | [], a, b => if b = Memory.unlisted then [] else [(a, b)]
  | (k, v) :: r, a, b =>
    if a < k then (if b = Memory.unlisted then (k, v) :: r else (a, b) :: (k, v) :: r)
    else if a = k then (if b = Memory.unlisted then r else (a, b) :: r)
    else (k, v) :: cellStore r a b

/-- The canonical form from address `lo` on: addresses strictly rising and below 8, no entry equal to what an unlisted byte reads as. -/
def cellsWf : Nat → List Host.Cell → Bool
  | _, [] => true
  | lo, (k, v) :: r => decide (lo ≤ k) && decide (k < Config.rbCap) && decide (v ≠ Memory.unlisted) && cellsWf (k + 1) r

/-- The memory is in its canonical form. -/
def Memory.wf (m : Memory) : Bool := cellsWf 0 m.cells

/-- The byte at an index of RB; none outside `RB[0..7]` (R50: no other index exists). -/
def Memory.read (m : Memory) (a : Nat) : Option Byte :=
  if a < Config.rbCap then some (cellByte m.cells a) else none

/-- `MemWrite(i, 1, b)` (R13): `RB[i] <- b`. -/
def Memory.write (m : Memory) (i : Fin 8) (b : Byte) : Memory := ⟨cellStore m.cells i.val b⟩

/-- `n` bytes from index `i` on; none where the range leaves `RB[0..7]`. -/
def Memory.readRange (m : Memory) (i : Nat) : Nat → Option (List Byte)
  | 0 => some []
  | n + 1 =>
    match m.read i, m.readRange (i + 1) n with
    | some b, some bs => some (b :: bs)
    | _, _ => none

/-- `MemRead(i, n)` (R13): `RB[i .. i+n-1]`. -/
def memRead (s : State) (i n : Nat) : Option (List Byte) := s.rb.readRange i n

/-! ### The frame registers (R28) -/

/-- `FRAME[i]`; none where `FRAME` has no such byte. -/
def FrameRegs.get (f : FrameRegs) (i : Nat) : Option Byte :=
  match i with
  | 0 => some f.f0
  | 1 => some f.f1
  | 2 => some f.f2
  | 3 => some f.f3
  | 4 => some f.f4
  | _ + 5 => none

/-- `FRAME <- bytes` (40_commands.md R100): the bytes go to `FRAME[0..]` in order; the bytes of `FRAME` past the end keep what they
held. DEDUCED (log 16). -/
def FrameRegs.load (f : FrameRegs) (bytes : List Byte) : FrameRegs :=
  { f0 := bytes[0]?.getD f.f0
    f1 := bytes[1]?.getD f.f1
    f2 := bytes[2]?.getD f.f2
    f3 := bytes[3]?.getD f.f3
    f4 := bytes[4]?.getD f.f4 }

/-! ### The line (R30, R56) -/

/-- `LINE_OPEN <- v`. The line sees the change of DTR, RTS and the open request, and sees nothing where there is none (R203's
"idempotent if already open"). -/
def State.setLineOpen (s : State) (v : Bool) : State :=
  { s with
    lineOpen := v
    lineLog := s.lineLog ++ (if s.lineOpen = v then [] else if v then [.raiseOpen] else [.lowerOpen]) }

/-- `emit_tx(b)` (R13, R56). -/
def State.emitTx (s : State) (b : Byte) : State := { s with lineLog := s.lineLog ++ [.tx b] }

/-! ### The buffer's registers -/

/-- Clear: `RLEN <- 0`, `ROVF <- 0`; `RB[0..7]` is not changed (R163). -/
def State.clearBuffer (s : State) : State := { s with rlen := 0, rovf := false }

/-! ### The abnormal outcomes of R13 and R240: this block's whole taking of an exception. Nothing is saved but these registers, no
mode is switched and control goes nowhere (R249); there is no return (R250). -/

/-- `RES_KIND <- k`, `RES_CMD <- c`, `RES_VALID <- 1` (R208, R209). -/
def State.setResult (s : State) (k : ResKind) (c : Cmd) : State := { s with resKind := k, resCmd := c, resValid := true }

/-- `raise Fail(cause)`: the result is FAIL for the command in flight; the cause is not stored (R242). -/
def State.raiseFail (s : State) : State := s.setResult .fail s.curCmd

/-- `raise Refused`: the result is REFUSED for the command presented (R244). -/
def State.raiseRefused (s : State) (c : Cmd) : State := s.setResult .refused c

/-- `raise ConfigError(cause)`: construction ends (R241). -/
def State.raiseConfigError (s : State) (c : CfgCause) : State := { s with cfgStatus := .configError, cfgCause := c }

/-- `st <- S` (R13, R27). -/
def State.goto (s : State) (e : ExchState) : State := { s with st := e }

end Sys2Proof.Machine
end

