-- ==== Sys2Proof/WellFormed.lean ====
section
/-! DEFINITION. When a request is one that the notation of 30_encoding.md R85 writes. The block itself takes every request: no
meaning and no decoding depends on this check. -/

namespace Sys2Proof

/-- The commands of format F_WRITE, the only ones that read the payload word (R74, R76). -/
def Cmd.isWrite : Cmd → Bool
  | .writeEmi | .writeTrans => true
  | .readTemp | .readTempLine | .readSerial | .readFw | .readEmi | .readTrans => false

/-- R85: `q=` is written for the write commands only, and "A request written without `q=` drives `req_q = 0`". -/
abbrev Instr.WellFormed (i : Instr) : Prop := i.cmd.isWrite = true ∨ i.q = 0

/-- The address and the address set that CONFIGURE lets past its validation (70_reset_and_hazards.md R272): a single-mode address
in 1..4, a non-empty line-mode set. -/
abbrev CfgMode.Valid (m : CfgMode) (addr : BitVec 3) (amask : BitVec 4) : Prop :=
  match m with
  | .single => 1 ≤ addr.toNat ∧ addr.toNat ≤ 4
  | .line => amask ≠ 0

end Sys2Proof
end

