-- ==== Sys2Proof/Machine/Operands.lean ====
section
/-! DEFINITION. The operand forms of 30_encoding.md R71, R72, R76, R78, R79, the checksum of 41_checksum.md, and the three frame
formats R73 to R75. -/

namespace Sys2Proof.Machine

/-! ### Derived values (10_state.md R26) -/

/-- `LINE_CNT = popcount(CFG_AMASK)`. -/
def lineCnt (m : BitVec 4) : Nat := popcount4 m

/-- `LINE_MAX = msb_index(CFG_AMASK) + 1`, as the byte `MAXA` (R75); a free value for the empty mask (log 14). -/
def lineMax (m : BitVec 4) : Byte :=
  match msbIndex4 m with
  | some i => BitVec.ofNat 8 (i + 1)
  | none => Config.lineMaxOfEmpty

/-! ### Operand bytes -/

/-- `OPC(c)` of a table of opcode bytes (00_scope.md R6). -/
def opcOf (o : Opcodes) : Cmd → Byte
  | .readTemp => o.readTemp
  | .readTempLine => o.readTempLine
  | .readSerial => o.readSerial
  | .readFw => o.readFw
  | .readEmi => o.readEmi
  | .writeEmi => o.writeEmi
  | .readTrans => o.readTrans
  | .writeTrans => o.writeTrans

/-- The address byte `AB = ADDR_BASE + a` (R71). -/
def addrByte (a : BitVec 3) : Byte := Config.addrBase + a.zeroExtend 8

/-- `P_HI = q[15:8]` (R74, R76). -/
def payloadHi (q : Word16) : Byte := q.extractLsb' 8 8

/-- `P_LO = q[7:0]` (R74, R76). -/
def payloadLo (q : Word16) : Byte := q.extractLsb' 0 8

/-- The checksum of a byte sequence: the exclusive OR of all its bytes, 0 for none (R140). -/
def checksum (bs : List Byte) : Byte := bs.foldl (· ^^^ ·) 0

/-! ### Frame formats -/

/-- The three frame formats (R70). -/
inductive Format where
  | read | write | line
deriving DecidableEq, Repr

/-- `FLEN` of a format (R70). -/
def frameLen : Format → BitVec 3
  | .read => 2
  | .write => 5
  | .line => 4

/-- F_READ (R73): address byte and opcode. -/
def frameRead (op : Byte) (a : BitVec 3) : List Byte := [addrByte a, op]

/-- F_WRITE (R74): address byte, opcode, payload most significant byte first (20_memory.md R51), checksum over the last three. -/
def frameWrite (op : Byte) (a : BitVec 3) (q : Word16) : List Byte :=
  [addrByte a, op, payloadHi q, payloadLo q, checksum [op, payloadHi q, payloadLo q]]

/-- F_LINE (R75): broadcast address byte, opcode, `MAXA`, checksum over opcode and `MAXA`. -/
def frameLine (op : Byte) (m : BitVec 4) : List Byte :=
  [addrByte Config.bcast, op, lineMax m, checksum [op, lineMax m]]

/-! ### The command map (R82) and the frame encoder (40_commands.md R100) -/

/-- The `format` column of R82. -/
def formatOf : Cmd → Format
  | .readTemp | .readSerial | .readFw | .readEmi | .readTrans => .read
  | .writeEmi | .writeTrans => .write
  | .readTempLine => .line

/-- The `mode` column of R82: the mode in which a command is accepted. -/
def modeOf : Cmd → CfgMode
  | .readTempLine => .line
  | .readTemp | .readSerial | .readFw | .readEmi | .writeEmi | .readTrans | .writeTrans => .single

/-- `explen(c)` (43_exchange_fsm.md R211), for the mask in force. -/
def expLen (m : BitVec 4) : Cmd → Nat
  | .readTemp => Config.lenTemp
  | .readTempLine => Config.lenTemp * lineCnt m
  | .readSerial => Config.lenSn
  | .readFw => Config.lenFw
  | .readEmi | .writeEmi | .readTrans | .writeTrans => Config.lenRatio

/-- What the frame encoder gives ACCEPT: the bytes of `FRAME`, `FLEN` and `EXP`. -/
structure Encoded where
  bytes : List Byte
  flen : BitVec 3
  exp : BitVec 4
deriving DecidableEq, Repr

/-- R100's `encode(c, q)`, over the registers and parameters it reads. -/
def encodeFrame (c : Cmd) (q : Word16) (s : State) : Encoded :=
  { bytes :=
      match formatOf c with
      | .read => frameRead (opcOf s.params.opc c) s.cfgAddr
      | .write => frameWrite (opcOf s.params.opc c) s.cfgAddr q
      | .line => frameLine (opcOf s.params.opc c) s.cfgAmask
    flen := frameLen (formatOf c)
    exp := BitVec.ofNat 4 (expLen s.cfgAmask c) }

end Sys2Proof.Machine
end

