-- ==== Sys2Proof/Machine/Flags.lean ====
section
/-! DEFINITION. The block's one flag, `RES_KIND = OK` (10_state.md R34), and the conditions it is computed from: the frame-boundary
detector (R162), the echo check (R170), admission (R202), the deadline (R206). -/

namespace Sys2Proof.Machine

/-- `complete := (ROVF = 0) and (RLEN = EXP)` (42_response_decoder.md R162). -/
def complete (s : State) : Bool := !s.rovf && decide (s.rlen = s.exp)

/-- The echo a write expects, in the order `RB[0], RB[1]` (R170). -/
def expectedEcho (o : EchoOrder) (q : Word16) : List Byte :=
  match o with
  | .same => [payloadHi q, payloadLo q]
  | .reversed => [payloadLo q, payloadHi q]

/-- `echo_ok(q)` (R170). -/
def echoOk (q : Word16) (s : State) : Bool := decide (memRead s 0 2 = some (expectedEcho s.params.echoOrder q))

/-- `ok` of the CLOSE step (43_exchange_fsm.md R208). -/
def exchangeOk (s : State) : Bool := complete s && (if s.curCmd.isWrite then echoOk s.curQ s else true)

/-- `admitted(c)` (R202). -/
def admitted (c : Cmd) (s : State) : Bool :=
  decide (s.cfgStatus = .ready) &&
    ((decide (s.cfgMode = .single) && decide (c ≠ .readTempLine)) ||
     (decide (s.cfgMode = .line) && decide (c = .readTempLine)))

/-- `ELAPSED >= TIMEOUT_MS` (R206). -/
def deadlineReached (s : State) : Bool := decide (s.params.timeoutMs ≤ s.elapsed)

end Sys2Proof.Machine
end

