-- ==== Sys2Proof/Machine/Configure.lean ====
section
/-! DEFINITION. Reset and construction, 70_reset_and_hazards.md R270 to R273. -/

namespace Sys2Proof.Machine

/-- Reset (R270): every register of the block takes its reset value, the line is closed, an exchange in flight is abandoned without a
result. What the other agents hold stays: the parameters, the client's port, the schedule, the line's record (log 19). -/
def resetStep (s : State) : Result :=
  .next
    { State.reset with
      params := s.params
      reqPort := s.reqPort
      stimuli := s.stimuli
      lineLog := (s.setLineOpen false).lineLog }

/-- `probe()` (R273): raise `LINE_OPEN`, take the answer, lower it; nothing is sent or received. -/
def State.probe (s : State) : State := (s.setLineOpen true).setLineOpen false

/-- The registers a successful configuration writes (R271): the register of the other mode stays as it was. -/
def State.setConfig (s : State) (m : CfgMode) (a : BitVec 3) (k : BitVec 4) : State :=
  { s with
    cfgMode := m
    cfgAddr := match m with | .single => a | .line => s.cfgAddr
    cfgAmask := match m with | .single => s.cfgAmask | .line => k
    cfgStatus := .ready }

/-- What R272 finds wrong with a configuration before any I/O. -/
def configCause (m : CfgMode) (a : BitVec 3) (k : BitVec 4) : Option CfgCause :=
  match m with
  | .single => if 1 ≤ a.toNat ∧ a.toNat ≤ Config.nDev then none else some .badAddr
  | .line => if k = 0 then some .emptyList else none

/-- `step CONFIGURE(cfg_mode, cfg_addr, cfg_amask)` (R271) with the answer the line gives if the probe asks (log 21). Enabled only
while `CFG_STATUS = UNCONFIGURED` and `ST = IDLE`; a later configuration changes nothing (R38). -/
def configureStep (m : CfgMode) (a : BitVec 3) (k : BitVec 4) (ok : Bool) (s : State) : Result :=
  if s.cfgStatus = .unconfigured ∧ s.st = .idle then
    match configCause m a k with
    | some c => .next (s.raiseConfigError c)
    | none => if ok then .next (s.probe.setConfig m a k) else .next (s.probe.raiseConfigError .portUnusable)
  else .next s

end Sys2Proof.Machine
end

