-- ==== Sys2Proof/Machine/Exchange.lean ====
section
/-! DEFINITION. The steps of an exchange after ACCEPT, 43_exchange_fsm.md R203 to R208, and the receive append of
42_response_decoder.md R160. Each is one atomic step (R14, R55). A step whose event comes in another state is not enabled and
changes nothing (R13's hold; R207 says it of a tick; log 2). -/

namespace Sys2Proof.Machine

/-! ### What the steps write -/

/-- `RX_EN <- 1`, `TXI <- 0` (R204). -/
def State.armWindow (s : State) : State := { s with rxEn := true, txi := 0 }

/-- `TXI <- TXI + 1` (R205). -/
def State.nextTx (s : State) : State := { s with txi := s.txi + 1 }

/-- `ELAPSED <- 0`: the deadline timer starts (R205). -/
def State.startTimer (s : State) : State := { s with elapsed := 0 }

/-- `ELAPSED <- ELAPSED + POLL_MS` (R207). -/
def State.addPoll (s : State) : State := { s with elapsed := s.elapsed + s.params.pollMs }

/-- `RX_EN <- 0` (R208). -/
def State.stopRx (s : State) : State := { s with rxEn := false }

/-- `MemWrite(i, 1, b)`, `RLEN <- RLEN + 1` (R160). -/
def State.storeByte (s : State) (i : Fin 8) (b : Byte) : State := { s with rb := s.rb.write i b, rlen := s.rlen + 1 }

/-- `ROVF <- 1` (R160, R161). -/
def State.setOverflow (s : State) : State := { s with rovf := true }

/-! ### The steps -/

/-- `step OPEN` (R203) with the line's answer. -/
def openStep (ok : Bool) (s : State) : Result :=
  if s.st = .opening then
    if ok then .next ((s.setLineOpen true).goto .arm)
    else .next ((((s.setLineOpen true).setLineOpen false).clearBuffer.raiseFail).goto .idle)
  else .next s

/-- `step ARM` (R204). -/
def armStep (s : State) : Result := .next (s.clearBuffer.armWindow.goto .send)

/-- `step SEND` (R205), enabled in SEND with `tx_ready = 1`. -/
def sendStep (s : State) : Result :=
  if s.st = .send then
    match s.frame.get s.txi.toNat with
    | none => .fault (.frameIndex s.txi)
    | some b =>
      if s.txi + 1 = s.flen then .next ((s.emitTx b).nextTx.startTimer.goto .wait)
      else .next (s.emitTx b).nextTx
  else .next s

/-- `step WAIT` (R206): completion first, then the deadline. -/
def checkStep (s : State) : Result :=
  if complete s then .next (s.goto .close)
  else if deadlineReached s then .next (s.goto .close)
  else .next (s.goto .sleep)

/-- `step SLEEP` (R207), enabled in SLEEP when a tick arrives. -/
def sleepStep (s : State) : Result :=
  if s.st = .sleep then .next (s.addPoll.goto .wait) else .next s

/-- `step CLOSE` (R208): close, unregister, then judge the buffer as it is now. -/
def closeStep (s : State) : Result :=
  .next (((s.setLineOpen false).stopRx.setResult (if exchangeOk s then .ok else .fail) s.curCmd).goto .idle)

/-- `step RX(b)` (R160): append while `RX_EN = 1`, the ninth byte only sets `ROVF` (R161); otherwise the byte is discarded. -/
def rxStep (b : Byte) (s : State) : Result :=
  if s.rxEn then
    if h : s.rlen.toNat < 8 then .next (s.storeByte ⟨s.rlen.toNat, h⟩ b)
    else .next s.setOverflow
  else .next s

end Sys2Proof.Machine
end

