-- ==== Sys2Proof/Machine/Agents.lean ====
section
/-! DEFINITION. Which agent moves (10_state.md R20, log 1), how the FSM fetches the request the client presents, and every move that
is not a request's meaning. -/

namespace Sys2Proof.Machine

/-- The next move: the head of the schedule, or the FSM alone where the schedule is empty (log 1). -/
def nextMove (s : State) : Stimulus :=
  match s.stimuli with
  | [] => .fsm
  | m :: _ => m

/-- The schedule less its head. -/
def State.dropMove (s : State) : State := { s with stimuli := s.stimuli.tail }

/-- The port is free again: the request is taken. -/
def State.takeRequest (s : State) : State := { s with reqPort := none }

/-- The client drives the request port (R217). -/
def State.presentRequest (s : State) (r : Request) : State := { s with reqPort := some r }

/-- The fetch: when the FSM moves in IDLE and a request is presented, that request, and the state it runs in. -/
def fetch (s : State) : Option (Instr × State) :=
  if nextMove s = .fsm ∧ s.st = .idle then s.reqPort.map (fun r => (decode r, s.dropMove.takeRequest)) else none

/-- The FSM's own steps besides ACCEPT: ARM, the WAIT check and CLOSE are always enabled in their states (43_exchange_fsm.md R200);
in OPEN, SEND and SLEEP, and in IDLE with no request, the FSM holds (R13, R215). -/
def fsmStep (s : State) : Result :=
  match s.st with
  | .arm => armStep s
  | .wait => checkStep s
  | .close => closeStep s
  | .idle => .next s
  | .opening => .next s
  | .send => .next s
  | .sleep => .next s

/-- One move of one agent. -/
def agentStep (m : Stimulus) (s : State) : Result :=
  match m with
  | .rst => resetStep s
  | .config mode a k ok => configureStep (modeOfCode mode) a k ok s
  | .request r => .next (s.presentRequest r)
  | .openAns ok => openStep ok s
  | .txReady => sendStep s
  | .rx b => rxStep b s
  | .tick => sleepStep s
  | .fsm => fsmStep s

end Sys2Proof.Machine
end

