-- ==== Sys2Proof/Machine/Accept.lean ====
section
/-! DEFINITION. The ACCEPT step of 43_exchange_fsm.md R201, which every command shares. -/

namespace Sys2Proof.Machine

/-- The registers an admitted request writes (R201): `CUR_CMD`, `CUR_Q`, `FRAME`, `FLEN`, `EXP`; `ST` goes to OPEN. -/
def State.latchRequest (s : State) (c : Cmd) (q : Word16) (e : Encoded) : State :=
  { s with
    curCmd := c
    curQ := q
    frame := s.frame.load e.bytes
    flen := e.flen
    exp := e.exp
    st := .opening }

/-- `RES_VALID <- 0` (R201). -/
def State.clearResult (s : State) : State := { s with resValid := false }

/-- The client goes on holding a request that is not taken (R214). -/
def State.holdRequest (s : State) (c : Cmd) (q : Word16) : State := { s with reqPort := some { cmd := c.code, q := q } }

/-- `step ACCEPT(req_cmd, req_q)` (R201) for a command whose encoding is `e`. Enabled only in IDLE; in any other state the request
is not taken and the client holds it (R214). -/
def accept (c : Cmd) (q : Word16) (e : Encoded) (s : State) : Result :=
  if s.st = .idle then
    if admitted c s then .next (s.clearResult.latchRequest c q e)
    else .next (s.clearResult.raiseRefused c)
  else .next (s.holdRequest c q)

end Sys2Proof.Machine
end

