-- ==== Sys2Proof/Machine/LineRead.lean ====
section
/-! DEFINITION. The broadcast read, 40_commands.md R102. -/

namespace Sys2Proof.Machine

/-- READ_TEMP_LINE (R102): frame `[0xB0, o, LINE_MAX, o ^ LINE_MAX]`, `EXP = 2 * LINE_CNT`. -/
def execReadTempLine (q : Word16) (s : State) : Result :=
  accept .readTempLine q
    { bytes := frameLine s.params.opc.readTempLine s.cfgAmask, flen := 4, exp := BitVec.ofNat 4 (2 * lineCnt s.cfgAmask) } s

end Sys2Proof.Machine
end

