-- ==== Sys2Proof/Machine/Reads.lean ====
section
/-! DEFINITION. The single-mode read commands, 40_commands.md R101, R103, R104, R105, R107. Each presents its own F_READ frame (R73)
and its own reply length to ACCEPT; the result-time half of each rule is its decoded output in Machine/Outputs.lean. -/

namespace Sys2Proof.Machine

/-- READ_TEMP (R101): frame `[0xB0 + CFG_ADDR, OPC(READ_TEMP)]`, `EXP = 2`. -/
def execReadTemp (q : Word16) (s : State) : Result :=
  accept .readTemp q { bytes := frameRead s.params.opc.readTemp s.cfgAddr, flen := 2, exp := 2 } s

/-- READ_SERIAL (R103): frame `[0xB0 + CFG_ADDR, OPC(READ_SERIAL)]`, `EXP = 3`. -/
def execReadSerial (q : Word16) (s : State) : Result :=
  accept .readSerial q { bytes := frameRead s.params.opc.readSerial s.cfgAddr, flen := 2, exp := 3 } s

/-- READ_FW (R104): frame `[0xB0 + CFG_ADDR, OPC(READ_FW)]`, `EXP = 2`. -/
def execReadFw (q : Word16) (s : State) : Result :=
  accept .readFw q { bytes := frameRead s.params.opc.readFw s.cfgAddr, flen := 2, exp := 2 } s

/-- READ_EMI (R105): frame `[0xB0 + CFG_ADDR, OPC(READ_EMI)]`, `EXP = 2`. -/
def execReadEmi (q : Word16) (s : State) : Result :=
  accept .readEmi q { bytes := frameRead s.params.opc.readEmi s.cfgAddr, flen := 2, exp := 2 } s

/-- READ_TRANS (R107): frame `[0xB0 + CFG_ADDR, OPC(READ_TRANS)]`, `EXP = 2`. -/
def execReadTrans (q : Word16) (s : State) : Result :=
  accept .readTrans q { bytes := frameRead s.params.opc.readTrans s.cfgAddr, flen := 2, exp := 2 } s

end Sys2Proof.Machine
end

