-- ==== Sys2Proof/Machine/Writes.lean ====
section
/-! DEFINITION. The write commands, 40_commands.md R106 and R108: an F_WRITE frame (R74) with the payload word, a reply of two bytes;
the echo is judged at CLOSE (`exchangeOk`, R170, R208). -/

namespace Sys2Proof.Machine

/-- WRITE_EMI (R106): frame `[0xB0 + CFG_ADDR, o, q[15:8], q[7:0], o ^ q[15:8] ^ q[7:0]]`, `EXP = 2`. -/
def execWriteEmi (q : Word16) (s : State) : Result :=
  accept .writeEmi q { bytes := frameWrite s.params.opc.writeEmi s.cfgAddr q, flen := 5, exp := 2 } s

/-- WRITE_TRANS (R108): the same with `OPC(WRITE_TRANS)`. -/
def execWriteTrans (q : Word16) (s : State) : Result :=
  accept .writeTrans q { bytes := frameWrite s.params.opc.writeTrans s.cfgAddr q, flen := 5, exp := 2 } s

end Sys2Proof.Machine
end

