-- ==== Sys2Proof/Machine/Dispatch.lean ====
section
/-! DEFINITION. The meaning of each request: the client presents it and the FSM takes the ACCEPT step (R201). -/

namespace Sys2Proof.Machine

def exec (i : Instr) (s : State) : Host.Outcome State Fault Refusal :=
  match i with
  | .readTemp q => Sys2Proof.Machine.execReadTemp q s
  | .readTempLine q => Sys2Proof.Machine.execReadTempLine q s
  | .readSerial q => Sys2Proof.Machine.execReadSerial q s
  | .readFw q => Sys2Proof.Machine.execReadFw q s
  | .readEmi q => Sys2Proof.Machine.execReadEmi q s
  | .writeEmi q => Sys2Proof.Machine.execWriteEmi q s
  | .readTrans q => Sys2Proof.Machine.execReadTrans q s
  | .writeTrans q => Sys2Proof.Machine.execWriteTrans q s

end Sys2Proof.Machine
end

