-- ==== Sys2Proof/Machine/Step.lean ====
section
/-! DEFINITION. One step of the machine: a fetched request runs, or the agent whose turn it is moves (00_scope.md R14). -/

namespace Sys2Proof.Machine

/-- One atomic step. -/
def step (s : State) : Host.Outcome State Fault Refusal :=
  match fetch s with
  | some (i, s') => exec i s'
  | none => agentStep (nextMove s) s.dropMove

/-- The request a table word stands for, presented by the client with the FSM to move next (log 6). A word that is no request
presents nothing. -/
def State.withFetchWord (s : State) (nbits w : Nat) : State :=
  match Request.ofBytes (tableBytes nbits w) with
  | .ok r => { s with reqPort := some r, stimuli := .fsm :: s.stimuli }
  | .error _ => s

end Sys2Proof.Machine
end

