-- ==== Sys2Proof/Machine/Quantizer.lean ====
section
/-! DEFINITION. The optional quantizer of 30_encoding.md R77 and the pseudo-requests of R85. It lies outside the block: the block takes
the word it gives. Reals are rationals here (log 13). -/

namespace Sys2Proof.Machine

/-- `Q_ROUND` (R10, R77): a rounding function gives an integer back as it is, so that `q` is exact where `v * 1000` is one; every other
number's rounding is free (log 13). -/
def qRound (x : ℚ) : ℤ := if x.den = 1 then x.num else Config.qRoundOpen x

/-- `q = Q_ROUND(v * 1000)`, reduced modulo 2^16, for a rounding function `r` (R77). -/
def quantize (r : ℚ → ℤ) (v : ℚ) : Word16 := BitVec.ofInt 16 (r (v * Config.rScale))

/-- `WRITE_EMI v=<real>` (R85). -/
def pseudoWriteEmi (v : ℚ) : Instr := .writeEmi (quantize qRound v)

/-- `WRITE_TRANS v=<real>` (R85). -/
def pseudoWriteTrans (v : ℚ) : Instr := .writeTrans (quantize qRound v)

/-- The two payload bytes of a word, in wire order (R51, R76). -/
def encodePayload (q : Word16) : List Byte := [payloadHi q, payloadLo q]

end Sys2Proof.Machine
end

