-- ==== Sys2Proof/Machine/Script.lean ====
section
/-! DEFINITION. The textual syntax of 30_encoding.md R85: one line of a program as the stimuli it stands for. The notation has no line
for the FSM's own moves nor for the answer to a probe (log 25): a schedule adds the first, `probeOk` gives the second. -/

namespace Sys2Proof.Machine

/-- The mnemonics of R82. -/
def mnemonic : Cmd → List Char
  | .readTemp => "READ_TEMP".toList
  | .readTempLine => "READ_TEMP_LINE".toList
  | .readSerial => "READ_SERIAL".toList
  | .readFw => "READ_FW".toList
  | .readEmi => "READ_EMI".toList
  | .writeEmi => "WRITE_EMI".toList
  | .readTrans => "READ_TRANS".toList
  | .writeTrans => "WRITE_TRANS".toList

/-- Every command, in the order of R82. -/
def allCmds : List Cmd :=
  [.readTemp, .readTempLine, .readSerial, .readFw, .readEmi, .writeEmi, .readTrans, .writeTrans]

/-- The command a mnemonic names. -/
def cmdNamed (w : List Char) : Option Cmd := allCmds.find? (fun c => decide (mnemonic c = w))

/-- The line less its comment: "Text after `;` is a comment". -/
def uncomment (l : List Char) : List Char := l.takeWhile (fun c => decide (c ≠ ';'))

/-- A list of characters cut at each separator. -/
def splitAt (sep : Char) : List Char → List (List Char)
  | [] => [[]]
  | c :: cs =>
    match splitAt sep cs with
    | w :: ws => if c = sep then [] :: w :: ws else (c :: w) :: ws
    | [] => [[]]

/-- The words of a line. -/
def wordsOf (l : List Char) : List (List Char) := (splitAt ' ' (uncomment l)).filter (fun w => !w.isEmpty)

/-- A digit's value, `0..9`, `a..f`, `A..F`. -/
def digitVal (c : Char) : Option Nat :=
  if 48 ≤ c.toNat ∧ c.toNat ≤ 57 then some (c.toNat - 48)
  else if 65 ≤ c.toNat ∧ c.toNat ≤ 70 then some (c.toNat - 55)
  else if 97 ≤ c.toNat ∧ c.toNat ≤ 102 then some (c.toNat - 87)
  else none

/-- Digits in a base, read after `acc`. -/
def digitsVal (base : Nat) : Nat → List Char → Option Nat
  | acc, [] => some acc
  | acc, c :: cs =>
    match digitVal c with
    | some d => if d < base then digitsVal base (acc * base + d) cs else none
    | none => none

/-- A number with at least one digit. -/
def numberVal (base : Nat) (w : List Char) : Option Nat := if w = [] then none else digitsVal base 0 w

/-- A literal: `0x` hexadecimal (R11), else in the base given. -/
def literalVal (base : Nat) : List Char → Option Nat
  | '0' :: 'x' :: w => numberVal 16 w
  | w => numberVal base w

/-- The text after a key such as `q=`. -/
def afterKey : List Char → List Char → Option (List Char)
  | [], w => some w
  | k :: ks, c :: cs => if k = c then afterKey ks cs else none
  | _ :: _, [] => none

/-- An unsigned decimal number such as `0.95`. -/
def unsignedRealVal (w : List Char) : Option ℚ :=
  match splitAt '.' w with
  | [a] => (numberVal 10 a).map (fun n => (n : ℚ))
  | [a, b] =>
    match numberVal 10 a, numberVal 10 b with
    | some n, some f => some ((n : ℚ) + (f : ℚ) / ((10 ^ b.length : Nat) : ℚ))
    | _, _ => none
  | _ => none

/-- A real value as a program writes it: a decimal number, with a minus sign or without. -/
def realVal : List Char → Option ℚ
  | '-' :: w => (unsignedRealVal w).map (fun v => -v)
  | w => unsignedRealVal w

/-- The mask of a list of addresses, each in 1..4 (10_state.md R24); a repeated address counts once (D12). -/
def maskOf : List Nat → Option (BitVec 4)
  | [] => some 0
  | a :: as =>
    match maskOf as with
    | some m => if 1 ≤ a ∧ a ≤ Config.nDev then some (m ||| BitVec.ofNat 4 (2 ^ (a - 1))) else none
    | none => none

/-- An address set written `<a>,...` between braces; `{` and `}` are the characters 123 and 125. -/
def addrSetVal (w : List Char) : Option (BitVec 4) :=
  match w with
  | [] => none
  | c :: cs =>
    if c = Char.ofNat 123 ∧ cs.getLast? = some (Char.ofNat 125) then
      match cs.dropLast with
      | [] => some 0
      | inner =>
        match (splitAt ',' inner).mapM (numberVal 10) with
        | some as => maskOf as
        | none => none
    else none

/-- A value kept only where it fits its field. -/
def fits (bound : Nat) (v : Option Nat) : Option Nat := v.bind (fun n => if n < bound then some n else none)

/-- The request a client's line writes: a mnemonic, with `q=<word>` or the pseudo-request's `v=<real>` for the writes. -/
def parseRequest (r : ℚ → ℤ) : List (List Char) → Option Request
  | [m] => (cmdNamed m).map (fun c => { cmd := c.code, q := 0 })
  | [m, o] =>
    match cmdNamed m with
    | none => none
    | some c =>
      if c.isWrite then
        match afterKey "q=".toList o with
        | some w => (fits 65536 (literalVal 10 w)).map (fun n => { cmd := c.code, q := BitVec.ofNat 16 n })
        | none => ((afterKey "v=".toList o).bind realVal).map (fun v => { cmd := c.code, q := quantize r v })
      else none
  | _ => none

/-- A `CONFIG` line's mode and operand. -/
def parseConfig (probeOk : Bool) (mode operand : List Char) : Option Stimulus :=
  if mode = "SINGLE".toList then
    (fits 8 ((afterKey "addr=".toList operand).bind (literalVal 10))).map (fun a => .config (modeCode .single) (BitVec.ofNat 3 a) 0 probeOk)
  else if mode = "LINE".toList then
    ((afterKey "addrs=".toList operand).bind addrSetVal).map (fun k => .config (modeCode .line) 0 k probeOk)
  else none

/-- The stimuli of one line (R85), for a rounding function and the answer the line gives to a probe; none where the line is not of
the notation. -/
def parseLine (r : ℚ → ℤ) (probeOk : Bool) (l : List Char) : Option (List Stimulus) :=
  match wordsOf l with
  | [] => some []
  | [w] =>
    if w = "RST".toList then some [.rst]
    else if w = "TICK".toList then some [.tick]
    else if w = "TX_READY".toList then some [.txReady]
    else (parseRequest r [w]).map (fun q => [.request q])
  | [w, o] =>
    if w = "RX".toList then (fits 256 (literalVal 16 o)).map (fun n => [.rx (BitVec.ofNat 8 n)])
    else if w = "TICK".toList then ((afterKey ['x'] o).bind (numberVal 10)).map (fun n => List.replicate n .tick)
    else if w = "OPEN_OK".toList then (fits 2 (literalVal 10 o)).map (fun n => [.openAns (decide (n = 1))])
    else (parseRequest r [w, o]).map (fun q => [.request q])
  | [w, m, o] => if w = "CONFIG".toList then (parseConfig probeOk m o).map (fun x => [x]) else none
  | _ => none

end Sys2Proof.Machine
end

