-- ==== Sys2Proof/Machine/Unpack.lean ====
section
/-! DEFINITION. The payload unpackers of 42_response_decoder.md R165 to R171. `none` is `valid = 0`, which has no value (R243, log 20). -/

namespace Sys2Proof.Machine

/-- `decodeTemperature(s)` (R165): `T10 = N - 1000`, tenths of a degree Celsius, exact. -/
def decodeTemperature (s : List Byte) : Option Int :=
  if s.length = Config.lenTemp then some ((decodeInteger s : Int) - Config.tOffset) else none

/-- `decodeRatio(s)` (R167): thousandths, unsigned. -/
def decodeRatio (s : List Byte) : Option Word16 :=
  if s.length = Config.lenRatio then some (BitVec.ofNat 16 (decodeInteger s)) else none

/-- `decodeSerial(s)` (R168): 24 bits in a 32-bit word, top byte 0. -/
def decodeSerial (s : List Byte) : Option (BitVec 32) :=
  if s.length = Config.lenSn then some (BitVec.ofNat 32 (decodeInteger s)) else none

/-- The word `FWW` of `decodeFirmware(s)` (R169). -/
def decodeFirmwareWord (s : List Byte) : Option Word16 :=
  if s.length = Config.lenFw then some (BitVec.ofNat 16 (decodeInteger s)) else none

/-- `decodeFirmware(s)` (R169): `FW`, signed or not as `FW_SIGNED` says. -/
def decodeFirmware (fwSigned : Bool) (s : List Byte) : Option Int :=
  (decodeFirmwareWord s).map (fun w => if fwSigned then sint16 w else (w.toNat : Int))

/-- Chunk `i` of the line reply goes to address `i + 1`, for `i` in `0 .. LINE_CNT - 1` (R171): `LINE_T10[j]`, none where
`LINE_HAS[j] = 0`. -/
def lineT10 (s : State) (j : Nat) : Option Int :=
  if 1 ≤ j ∧ j ≤ lineCnt s.cfgAmask then (memRead s (2 * (j - 1)) 2).bind decodeTemperature else none

/-- `LINE_HAS[j]`, 1 iff `j <= LINE_CNT`, for the four addresses there are (R171). -/
def lineHas (s : State) (j : Nat) : Option Bool :=
  if 1 ≤ j ∧ j ≤ Config.nDev then some (decide (j ≤ lineCnt s.cfgAmask)) else none

end Sys2Proof.Machine
end

