-- ==== Sys2Proof/Machine/Outputs.lean ====
section
/-! DEFINITION. The block's outputs: the decoded outputs of 42_response_decoder.md R173, one per command, and the output ports of
43_exchange_fsm.md R217. All are functions of State; reading has no side effect (R56, R209). -/

namespace Sys2Proof.Machine

/-- "An output is defined only when `RES_VALID = 1` and `RES_KIND = OK`", and belongs to `RES_CMD` (R173). -/
def resultOkFor (s : State) (c : Cmd) : Bool := s.resValid && decide (s.resKind = .ok) && decide (s.resCmd = c)

/-- `OUT_T10` (R101, R173). -/
def outT10 (s : State) : Option Int :=
  if resultOkFor s .readTemp then (memRead s 0 2).bind decodeTemperature else none

/-- `LINE_T10[j]` (R102, R171, R173). -/
def outLineT10 (s : State) (j : Nat) : Option Int := if resultOkFor s .readTempLine then lineT10 s j else none

/-- `LINE_HAS[j]` (R171, R173): no value, and so neither 0 nor 1, where READ_TEMP_LINE has no standing OK result. -/
def outLineHas (s : State) (j : Nat) : Option Bool := if resultOkFor s .readTempLine then lineHas s j else none

/-- `OUT_SN` (R103, R173). -/
def outSN (s : State) : Option (BitVec 32) :=
  if resultOkFor s .readSerial then (memRead s 0 3).bind decodeSerial else none

/-- `OUT_FWW` (R104, R173). -/
def outFWW (s : State) : Option Word16 :=
  if resultOkFor s .readFw then (memRead s 0 2).bind decodeFirmwareWord else none

/-- `OUT_FW` (R104, R173), under `FW_SIGNED`. -/
def outFW (s : State) : Option Int :=
  if resultOkFor s .readFw then (memRead s 0 2).bind (decodeFirmware s.params.fwSigned) else none

/-- `OUT_R1000` (R105, R107, R173). -/
def outR1000 (s : State) : Option Word16 :=
  if resultOkFor s .readEmi || resultOkFor s .readTrans then (memRead s 0 2).bind decodeRatio else none

/-- The success flag of a write, "a boolean success flag for write operations" (R106, R108, R173): none while no write's result
stands. -/
def outWriteOk (s : State) : Option Bool :=
  if s.resValid && s.resCmd.isWrite then some (decide (s.resKind = .ok)) else none

/-- The reply of a successful exchange, `MemRead(0, EXP)` (R164). -/
def reply (s : State) : Option (List Byte) :=
  if s.resValid && decide (s.resKind = .ok) then memRead s 0 s.exp.toNat else none

/-- The output ports (R217). `tx_data` is none where `FRAME` has no byte `TXI`. -/
structure Ports where
  cfgStatus : BitVec 2
  cfgCause : BitVec 2
  reqReady : Bool
  resValid : Bool
  resKind : BitVec 2
  resCmd : BitVec 3
  resLen : BitVec 4
  resBytes : List Byte
  lineOpen : Bool
  dtr : Bool
  rts : Bool
  txValid : Bool
  txData : Option Byte
deriving DecidableEq, Repr

/-- The ports a state drives (R217): `req_ready = (ST = IDLE)`, `line_open = dtr = rts = LINE_OPEN` (R30), `tx_valid` exactly in
SEND, `tx_data = FRAME[TXI]`. -/
def ports (s : State) : Ports :=
  { cfgStatus := s.cfgStatus.code
    cfgCause := s.cfgCause.code
    reqReady := decide (s.st = .idle)
    resValid := s.resValid
    resKind := s.resKind.code
    resCmd := s.resCmd.code
    resLen := s.rlen
    resBytes := (List.range 8).map (cellByte s.rb.cells)
    lineOpen := s.lineOpen
    dtr := s.lineOpen
    rts := s.lineOpen
    txValid := decide (s.st = .send)
    txData := s.frame.get s.txi.toNat }

end Sys2Proof.Machine
end

