-- ==== Sys2Proof/Safety.lean ====
section
/-! DEFINITION. What a safe run is, in the words the statements use: the invariants of 43_exchange_fsm.md R216, the deadline's bound K
(R210), the number of FSM steps an exchange still takes (R215), fair and prompt schedules of the other agents. -/

namespace Sys2Proof.Safety

open Sys2Proof.Machine

/-- `n` steps of the machine, as the host runs them. -/
def run (n : Nat) (s : State) : Result := Sys2Proof.core.run n s

/-- `K = ceil(TIMEOUT_MS / POLL_MS)` (R210). -/
def maxSleeps (p : Params) : Nat := (p.timeoutMs + p.pollMs - 1) / p.pollMs

/-- While READY the configuration is one that passed R272 (R22 to R24, R38). -/
def CfgValid (s : State) : Prop := s.cfgStatus = .ready → s.cfgMode.Valid s.cfgAddr s.cfgAmask

/-- The six invariants of R216, in its order. -/
structure ExchangeInv (s : State) : Prop where
  rx_on_open_line : s.rxEn = true → s.lineOpen = true
  idle_is_closed : s.st = .idle → s.lineOpen = false ∧ s.rxEn = false
  window_is_open : s.st = .send ∨ s.st = .wait ∨ s.st = .sleep ∨ s.st = .close → s.rxEn = true ∧ s.lineOpen = true
  buffer_bounded : s.rlen.toNat ≤ 8 ∧ (s.rovf = true → s.rlen.toNat = 8)
  elapsed_counts_polls : s.st = .wait ∨ s.st = .sleep → ∃ j, j ≤ maxSleeps s.params ∧ s.elapsed = j * s.params.pollMs
  unready_is_idle : s.cfgStatus ≠ .ready → s.st = .idle

/-- What else holds of every run, so that R216 is kept by each single step: the line is closed in OPEN and open in ARM; a sleep is
taken only before the deadline; the exchange registers are those ACCEPT latched for a command the configuration admits; the index of
the next byte stays inside the frame; a result OK belongs to a complete reply of its command; the memory is canonical. -/
structure Inv (s : State) : Prop where
  exchange : ExchangeInv s
  poll_positive : 1 ≤ s.params.pollMs
  cfg_valid : CfgValid s
  opening_is_closed : s.st = .opening → s.lineOpen = false ∧ s.rxEn = false
  arm_is_open : s.st = .arm → s.lineOpen = true ∧ s.rxEn = false
  sleep_before_deadline : s.st = .sleep → s.elapsed < s.params.timeoutMs
  busy_registers : s.st ≠ .idle →
    s.flen = frameLen (formatOf s.curCmd) ∧ s.exp.toNat = expLen s.cfgAmask s.curCmd ∧ s.cfgMode = modeOf s.curCmd
  send_inside_frame : s.st = .send → s.txi.toNat < s.flen.toNat
  ok_is_complete : s.resValid = true → s.resKind = .ok →
    s.cfgStatus = .ready ∧ s.cfgMode = modeOf s.resCmd ∧ s.rovf = false ∧ s.rlen.toNat = expLen s.cfgAmask s.resCmd ∧ s.st = .idle
  memory_canonical : s.rb.wf = true

/-- The sleeps the deadline still allows: the number of polls until `ELAPSED >= TIMEOUT_MS`. -/
def sleepsLeft (s : State) : Nat := (s.params.timeoutMs - s.elapsed + s.params.pollMs - 1) / s.params.pollMs

/-- How many FSM steps the exchange takes at most from here to IDLE (R215): OPEN, ARM, one SEND a byte, a WAIT check before each
sleep and one more, CLOSE. -/
def fsmStepsLeft (s : State) : Nat :=
  match s.st with
  | .idle => 0
  | .close => 1
  | .sleep => 2 * sleepsLeft s + 1
  | .wait => 2 * sleepsLeft s + 2
  | .send => (s.flen.toNat - s.txi.toNat) + 2 * maxSleeps s.params + 2
  | .arm => s.flen.toNat + 2 * maxSleeps s.params + 3
  | .opening => s.flen.toNat + 2 * maxSleeps s.params + 4

/-- A move that enables the FSM's step in a state of an exchange (R200's "enabled when" column). -/
def enables (m : Stimulus) (e : ExchState) : Bool :=
  match m, e with
  | .openAns _, .opening => true
  | .fsm, .arm => true
  | .txReady, .send => true
  | .fsm, .wait => true
  | .tick, .sleep => true
  | .fsm, .close => true
  | _, _ => false

/-- A stretch of the schedule in which the line answers, the transmitter is ready, the timer ticks and the FSM moves, in any order
and among any other moves (R215's conditions). -/
def FairRound (l : List Stimulus) : Prop :=
  (∃ ok, .openAns ok ∈ l) ∧ .txReady ∈ l ∧ .tick ∈ l ∧ .fsm ∈ l

/-- The other agents' moves in an exchange that opens at once, is sent without a pause and is answered before the first check. -/
def promptSchedule (flen : Nat) (bytes : List Byte) : List Stimulus :=
  [.fsm, .openAns true, .fsm] ++ List.replicate flen .txReady ++ bytes.map .rx ++ [.fsm, .fsm]

/-- The same, answered by nobody: `n` ticks between the checks. -/
def silentSchedule (flen n : Nat) : List Stimulus :=
  [.fsm, .openAns true, .fsm] ++ List.replicate flen .txReady ++ (List.replicate n [.fsm, .tick]).flatten ++ [.fsm, .fsm]

/-- The line's acts in an exchange whose frame is `bytes`. -/
def exchangeActs (bytes : List Byte) : List LineAct := .raiseOpen :: (bytes.map .tx ++ [.lowerOpen])

/-- The next state of an admitted F_READ command `c` with opcode byte `op` and reply length `n`, field by field (R73, R101, R201). -/
def latchedRead (s : State) (c : Cmd) (q : Word16) (op : Byte) (n : BitVec 4) : State :=
  { s with
    resValid := false, curCmd := c, curQ := q
    frame := { s.frame with f0 := 0xB0 + s.cfgAddr.zeroExtend 8, f1 := op }
    flen := 2, exp := n, st := .opening }

/-- The next state of an admitted F_WRITE command (R74, R106, R201). -/
def latchedWrite (s : State) (c : Cmd) (q : Word16) (op : Byte) : State :=
  { s with
    resValid := false, curCmd := c, curQ := q
    frame :=
      { f0 := 0xB0 + s.cfgAddr.zeroExtend 8, f1 := op, f2 := q.extractLsb' 8 8, f3 := q.extractLsb' 0 8
        f4 := op ^^^ q.extractLsb' 8 8 ^^^ q.extractLsb' 0 8 }
    flen := 5, exp := 2, st := .opening }

/-- The next state of an admitted READ_TEMP_LINE (R75, R102, R201). -/
def latchedLine (s : State) (q : Word16) : State :=
  { s with
    resValid := false, curCmd := .readTempLine, curQ := q
    frame :=
      { s.frame with
        f0 := 0xB0, f1 := s.params.opc.readTempLine, f2 := lineMax s.cfgAmask
        f3 := s.params.opc.readTempLine ^^^ lineMax s.cfgAmask }
    flen := 4, exp := BitVec.ofNat 4 (2 * lineCnt s.cfgAmask), st := .opening }

/-- A command belongs to a mode (R202): READ_TEMP_LINE to LINE, the seven others to SINGLE. -/
def Belongs (c : Cmd) (m : CfgMode) : Prop := (m = .single ∧ c ≠ .readTempLine) ∨ (m = .line ∧ c = .readTempLine)

/-- The one-step moves of the exchange state machine, R200's table: from, to, and when. -/
def TableMove (s : State) (t : State) : Prop :=
  (s.st = .idle ∧ t.st = .opening ∧ nextMove s = .fsm ∧
    ∃ r, s.reqPort = some r ∧ s.cfgStatus = .ready ∧ Belongs (decode r).cmd s.cfgMode) ∨
  (s.st = .opening ∧ t.st = .arm ∧ nextMove s = .openAns true) ∨
  (s.st = .opening ∧ t.st = .idle ∧ nextMove s = .openAns false) ∨
  (s.st = .arm ∧ t.st = .send ∧ nextMove s = .fsm) ∨
  (s.st = .send ∧ t.st = .wait ∧ nextMove s = .txReady ∧ s.txi + 1 = s.flen) ∨
  (s.st = .wait ∧ t.st = .close ∧ nextMove s = .fsm ∧ (complete s = true ∨ s.params.timeoutMs ≤ s.elapsed)) ∨
  (s.st = .wait ∧ t.st = .sleep ∧ nextMove s = .fsm ∧ complete s = false ∧ s.elapsed < s.params.timeoutMs) ∨
  (s.st = .sleep ∧ t.st = .wait ∧ nextMove s = .tick) ∨
  (s.st = .close ∧ t.st = .idle ∧ nextMove s = .fsm)

/-- The configuration registers, which no step writes while READY (R38). -/
def cfgRegs (s : State) : CfgMode × BitVec 3 × BitVec 4 × CfgStatus × CfgCause :=
  (s.cfgMode, s.cfgAddr, s.cfgAmask, s.cfgStatus, s.cfgCause)

/-- The exchange registers of R28 with `ELAPSED` (R29). -/
def exchangeRegs (s : State) : Cmd × Word16 × FrameRegs × BitVec 3 × BitVec 3 × BitVec 4 × Nat :=
  (s.curCmd, s.curQ, s.frame, s.flen, s.txi, s.exp, s.elapsed)

/-- The result registers (R33). -/
def resultRegs (s : State) : Bool × ResKind × Cmd := (s.resValid, s.resKind, s.resCmd)

/-- What the line and the buffer registers hold (R30 to R32), the bytes of RB apart. -/
def lineRegs (s : State) : Bool × Bool × BitVec 4 × Bool := (s.lineOpen, s.rxEn, s.rlen, s.rovf)

/-- What the other agents hold: the model's own fields. -/
def environment (s : State) : Params × Option Request × List Stimulus × List LineAct :=
  (s.params, s.reqPort, s.stimuli, s.lineLog)

/-- Every byte of RB reads the same. -/
def SameBytes (s t : State) : Prop := ∀ a, t.rb.read a = s.rb.read a

end Sys2Proof.Safety
end

