-- ==== Sys2Proof/Certificates/Slice0/Obligations.lean ====
section
/-! DEFINITION. The statements for the provers. A statement over every state is one over every choice of the parameters and every
schedule of the other agents, since State holds both (logs 1 and 15). -/

open Sys2Proof Sys2Proof.Machine Sys2Proof.Safety

/-! ### Decoding and encoding -/

/-- The words of R82's `req_cmd` column, written out as table words, decode to their commands; bytes of a wrong number are rejected
by name. The byte image is the model's (log 4). -/
def Obligations.CommandWordsDecode : Prop :=
  decodeTableWord 8 0b000 = some (.readTemp 0) ∧ decodeTableWord 8 0b001 = some (.readTempLine 0) ∧
  decodeTableWord 8 0b010 = some (.readSerial 0) ∧ decodeTableWord 8 0b011 = some (.readFw 0) ∧
  decodeTableWord 8 0b100 = some (.readEmi 0) ∧ decodeTableWord 8 0b101 = some (.writeEmi 0) ∧
  decodeTableWord 8 0b110 = some (.readTrans 0) ∧ decodeTableWord 8 0b111 = some (.writeTrans 0) ∧
  decodeTableWord 24 0x03B605 = some (.writeEmi 0x03B6) ∧
  ∀ bs : List Byte, bs.length ≠ 3 → decodeBytes bs = .error (.wrongLength bs.length)

/-- Decode and encode agree on every byte sequence: the bytes that decode to a request are its encodings, with any padding in the five
bits that drive no pin. -/
def Obligations.BytesDecodeExactlyTheirRequests : Prop :=
  ∀ (bs : List Byte) (i : Instr), decodeBytes bs = .ok i ↔ ∃ pad : BitVec 5, bs = encodeBytes pad i

/-- Every value of the request port is one request's encoding, and every request is read back from it (R83: no code is reserved). -/
def Obligations.PortValuesAndRequestsCorrespond : Prop :=
  (∀ i : Instr, decode (encode i) = i) ∧ (∀ r : Request, encode (decode r) = r) ∧
  ∀ (r : Request), (decode r).cmd.code = r.cmd ∧ (decode r).q = r.q

/-! ### A step -/

/-- A step runs the request the port holds when the FSM moves in IDLE: the move is used up and the port is free again. -/
def Obligations.StepRunsTheDecodedRequest : Prop :=
  ∀ (s : State) (r : Request) (i : Instr), s.st = .idle → s.reqPort = some r → decode r = i →
    (∀ rest, s.stimuli = .fsm :: rest → step s = exec i { s with reqPort := none, stimuli := rest }) ∧
    (s.stimuli = [] → step s = exec i { s with reqPort := none })

/-- A word placed by `withFetchWord` is the very next instruction to run, in every idle state. -/
def Obligations.PlacedWordRunsNext : Prop :=
  ∀ (s : State) (nbits w : Nat) (i : Instr), s.st = .idle → decodeTableWord nbits w = some i →
    step (s.withFetchWord nbits w) = exec i { s with reqPort := none }

/-! ### The requests -/

/-- The five single-mode reads, in IDLE, READY and SINGLE: ACCEPT latches the command, the word, the two bytes of the F_READ frame,
FLEN and EXP, clears RES_VALID, goes to OPEN, and changes nothing else. That FRAME[2..4] stay is the model's (log 16). -/
def Obligations.SingleReadsLatchTheirFrame : Prop :=
  ∀ (q : Word16) (s : State), s.st = .idle → s.cfgStatus = .ready → s.cfgMode = .single →
    exec (.readTemp q) s = .next (latchedRead s .readTemp q s.params.opc.readTemp 2) ∧
    exec (.readSerial q) s = .next (latchedRead s .readSerial q s.params.opc.readSerial 3) ∧
    exec (.readFw q) s = .next (latchedRead s .readFw q s.params.opc.readFw 2) ∧
    exec (.readEmi q) s = .next (latchedRead s .readEmi q s.params.opc.readEmi 2) ∧
    exec (.readTrans q) s = .next (latchedRead s .readTrans q s.params.opc.readTrans 2)

/-- The two writes, in IDLE, READY and SINGLE: all five bytes of the F_WRITE frame, payload high byte first, checksum last. -/
def Obligations.WritesLatchTheirFrame : Prop :=
  ∀ (q : Word16) (s : State), s.st = .idle → s.cfgStatus = .ready → s.cfgMode = .single →
    exec (.writeEmi q) s = .next (latchedWrite s .writeEmi q s.params.opc.writeEmi) ∧
    exec (.writeTrans q) s = .next (latchedWrite s .writeTrans q s.params.opc.writeTrans)

/-- The broadcast read, in IDLE, READY and LINE: the four bytes of the F_LINE frame, and EXP twice the number of addresses. That FRAME[4] stays
is the model's (log 16). -/
def Obligations.LineReadLatchesItsFrame : Prop :=
  ∀ (q : Word16) (s : State), s.st = .idle → s.cfgStatus = .ready → s.cfgMode = .line →
    exec (.readTempLine q) s = .next (latchedLine s q)

/-- Any request, in IDLE, not READY or not of the mode in force: REFUSED, with no I/O and no other register written. -/
def Obligations.RequestsOutOfModeAreRefused : Prop :=
  ∀ (i : Instr) (s : State), s.st = .idle → (s.cfgStatus ≠ .ready ∨ ¬ Belongs i.cmd s.cfgMode) →
    exec i s = .next { s with resValid := true, resKind := .refused, resCmd := i.cmd }

/-- Any request while an exchange is in flight is not taken: `req_ready` is 0, no register changes, the client holds the request on
its port; and presenting a request, in every state, IDLE among them, is a move of the client's that changes the port alone. The port
and the schedule are the model's fields (logs 1 and 3). -/
def Obligations.BusyRequestsAreHeld : Prop :=
  (∀ (i : Instr) (s : State), s.st ≠ .idle →
    (ports s).reqReady = false ∧ exec i s = .next { s with reqPort := some (encode i) }) ∧
  ∀ (r : Request) (rest : List Stimulus) (s : State), s.stimuli = .request r :: rest →
    step s = .next { s with stimuli := rest, reqPort := some r }

/-- What an admitted request latches is R100's `encode(c, q)`, whichever rule of R101 to R108 gives its frame. That `FRAME[FLEN..4]`
keep their bytes, as `FrameRegs.load` has it, is the model's (log 16). -/
def Obligations.LatchedFrameIsTheEncoders : Prop :=
  ∀ (i : Instr) (s : State), s.st = .idle → s.cfgStatus = .ready → Belongs i.cmd s.cfgMode →
    ∃ t, exec i s = .next t ∧ t.frame = s.frame.load (encodeFrame i.cmd i.q s).bytes ∧
      t.flen = (encodeFrame i.cmd i.q s).flen ∧ t.exp = (encodeFrame i.cmd i.q s).exp ∧
      (encodeFrame i.cmd i.q s).bytes.length = t.flen.toNat ∧ t.exp.toNat = expLen s.cfgAmask i.cmd

/-- The frame of every request: configuration, transmit index, timer, line, buffer with every byte of RB, parameters, schedule and the
line's record are as before; a request that is not taken or refused leaves the exchange registers alone, a request that is taken or
refused leaves the port alone. -/
def Obligations.RequestsLeaveTheRestAlone : Prop :=
  ∀ (i : Instr) (s t : State), exec i s = .next t →
    cfgRegs t = cfgRegs s ∧ t.txi = s.txi ∧ t.elapsed = s.elapsed ∧ lineRegs t = lineRegs s ∧ SameBytes s t ∧
    t.params = s.params ∧ t.stimuli = s.stimuli ∧ t.lineLog = s.lineLog ∧
    (s.st = .idle → t.reqPort = s.reqPort) ∧
    (t.st ≠ .opening ∨ s.st ≠ .idle → exchangeRegs t = exchangeRegs s ∧ t.st = s.st) ∧
    (s.st ≠ .idle → resultRegs t = resultRegs s)

/-- The address byte is 0xB0 + a: 0xB0 for READ_TEMP_LINE, 0xB1 to 0xB4 for every other command. -/
def Obligations.AddressByteNamesTheDevice : Prop :=
  ∀ (i : Instr) (s t : State), CfgValid s → s.st = .idle → exec i s = .next t → t.st = .opening →
    (i.cmd = .readTempLine → t.frame.f0 = 0xB0) ∧
    (i.cmd ≠ .readTempLine → t.frame.f0.toNat = 0xB0 + s.cfgAddr.toNat ∧ 0xB1 ≤ t.frame.f0.toNat ∧ t.frame.f0.toNat ≤ 0xB4)

/-- LINE_CNT counts the configured addresses and LINE_MAX is the highest of them, both 1 to 4. -/
def Obligations.LineCountAndMaximum : Prop :=
  ∀ m : BitVec 4, m ≠ 0 →
    lineCnt m = ((List.range 4).filter (fun k => m.getLsbD k)).length ∧ 1 ≤ lineCnt m ∧ lineCnt m ≤ 4 ∧
    lineMax m = BitVec.ofNat 8 (Nat.log2 m.toNat + 1) ∧ 1 ≤ (lineMax m).toNat ∧ (lineMax m).toNat ≤ 4 ∧
    m.getLsbD ((lineMax m).toNat - 1) = true ∧ ∀ k, (lineMax m).toNat ≤ k → m.getLsbD k = false

/-- Two line configurations with the same highest address send the same frame and differ only in EXP. -/
def Obligations.LineFrameDependsOnTheMaximumOnly : Prop :=
  ∀ (q : Word16) (s : State) (m : BitVec 4), s.st = .idle → s.cfgStatus = .ready → s.cfgMode = .line →
    s.cfgAmask ≠ 0 → m ≠ 0 → Nat.log2 m.toNat = Nat.log2 s.cfgAmask.toNat →
    ∃ t u, exec (.readTempLine q) s = .next t ∧ exec (.readTempLine q) { s with cfgAmask := m } = .next u ∧
      u = { t with cfgAmask := m, exp := u.exp } ∧ t.exp.toNat = 2 * lineCnt s.cfgAmask ∧ u.exp.toNat = 2 * lineCnt m

/-! ### The exchange -/

/-- OPEN with the line's answer: armed with the line open; or closed again, the buffer cleared and FAIL. That a failed open writes
RES_KIND follows R203 and R242 against R34 (log 24); the schedule and the line's record are the model's (logs 1 and 18). -/
def Obligations.OpenAnswerArmsOrFails : Prop :=
  ∀ (s : State) (rest : List Stimulus), s.st = .opening →
    (s.stimuli = .openAns true :: rest → step s = .next
      { s with
        stimuli := rest, lineOpen := true, st := .arm
        lineLog := s.lineLog ++ (if s.lineOpen then [] else [.raiseOpen]) }) ∧
    (s.stimuli = .openAns false :: rest → step s = .next
      { s with
        stimuli := rest, lineOpen := false, rlen := 0, rovf := false, st := .idle
        resValid := true, resKind := .fail, resCmd := s.curCmd
        lineLog := s.lineLog ++ (if s.lineOpen then [] else [.raiseOpen]) ++ [.lowerOpen] })

/-- ARM registers the receive path and clears the buffer's registers; the bytes of RB stay. The schedule is the model's (log 1). -/
def Obligations.ArmClearsAndRegisters : Prop :=
  ∀ (s : State) (rest : List Stimulus), s.st = .arm → s.stimuli = .fsm :: rest →
    step s = .next { s with stimuli := rest, rxEn := true, rlen := 0, rovf := false, txi := 0, st := .send }

/-- SEND hands over one frame byte in order; the last one starts the timer and the polling. The schedule and the line's record are
the model's (logs 1 and 18). -/
def Obligations.SendHandsOverTheFrameInOrder : Prop :=
  ∀ (s : State) (rest : List Stimulus) (b : Byte), s.st = .send → s.stimuli = .txReady :: rest →
    s.frame.get s.txi.toNat = some b →
    (s.txi + 1 ≠ s.flen → step s = .next
      { s with stimuli := rest, txi := s.txi + 1, lineLog := s.lineLog ++ [.tx b] }) ∧
    (s.txi + 1 = s.flen → step s = .next
      { s with stimuli := rest, txi := s.txi + 1, elapsed := 0, st := .wait, lineLog := s.lineLog ++ [.tx b] })

/-- WAIT tests completion before the deadline, and sleeps where neither holds. The schedule is the model's (log 1). -/
def Obligations.CheckTestsCompletionThenDeadline : Prop :=
  ∀ (s : State) (rest : List Stimulus), s.st = .wait → s.stimuli = .fsm :: rest →
    step s = .next
      { s with
        stimuli := rest
        st := if s.rovf = false ∧ s.rlen = s.exp then .close
              else if s.params.timeoutMs ≤ s.elapsed then .close else .sleep }

/-- A tick counts one poll in SLEEP and has no effect in any other state; the schedule it comes from is the model's (log 1). -/
def Obligations.TickCountsOnlyInSleep : Prop :=
  ∀ (s : State) (rest : List Stimulus), s.stimuli = .tick :: rest →
    (s.st = .sleep → step s = .next { s with stimuli := rest, elapsed := s.elapsed + s.params.pollMs, st := .wait }) ∧
    (s.st ≠ .sleep → step s = .next { s with stimuli := rest })

/-- CLOSE closes the line, unregisters, and judges the buffer as it stands: OK exactly when it is complete and, for a write, the echo
matches. The schedule and the line's record are the model's (logs 1 and 18). -/
def Obligations.CloseJudgesTheBufferAsItStands : Prop :=
  ∀ (s : State) (rest : List Stimulus), s.st = .close → s.stimuli = .fsm :: rest →
    ∃ k, step s = .next
      { s with
        stimuli := rest, lineOpen := false, rxEn := false, resKind := k, resCmd := s.curCmd, resValid := true, st := .idle
        lineLog := s.lineLog ++ (if s.lineOpen then [.lowerOpen] else []) } ∧
      (k = .ok ∨ k = .fail) ∧
      (k = .ok ↔ (s.rovf = false ∧ s.rlen = s.exp) ∧
        (s.curCmd = .writeEmi ∨ s.curCmd = .writeTrans → echoOk s.curQ s = true))

/-- A received byte is appended at RLEN, the ninth only sets ROVF, and a byte outside the window is discarded. The schedule
and the buffer's canonical form are the model's (logs 1 and 8). -/
def Obligations.ReceivedByteIsAppended : Prop :=
  ∀ (s : State) (rest : List Stimulus) (b : Byte), s.rb.wf = true → s.stimuli = .rx b :: rest →
    (s.rxEn = false → step s = .next { s with stimuli := rest }) ∧
    (s.rxEn = true → 8 ≤ s.rlen.toNat → step s = .next { s with stimuli := rest, rovf := true }) ∧
    (s.rxEn = true → s.rlen.toNat < 8 →
      ∃ m : Memory, step s = .next { s with stimuli := rest, rb := m, rlen := s.rlen + 1 } ∧ m.wf = true ∧
        ∀ a, m.read a = if a = s.rlen.toNat then some b else s.rb.read a)

/-- CONFIGURE validates before any I/O, probes, and writes the register of its own mode; it is enabled only when UNCONFIGURED and
IDLE (that it is then used up without effect is log 2's, the answer's coming with it log 21's). -/
def Obligations.ConfigureValidatesThenProbes : Prop :=
  ∀ (s : State) (rest : List Stimulus) (m : CfgMode) (a : BitVec 3) (k : BitVec 4) (ok : Bool),
    s.stimuli = .config (modeCode m) a k ok :: rest →
    (s.cfgStatus ≠ .unconfigured ∨ s.st ≠ .idle → step s = .next { s with stimuli := rest }) ∧
    (s.cfgStatus = .unconfigured → s.st = .idle → s.lineOpen = false →
      (m = .single → ¬ (1 ≤ a.toNat ∧ a.toNat ≤ 4) →
        step s = .next { s with stimuli := rest, cfgStatus := .configError, cfgCause := .badAddr }) ∧
      (m = .line → k = 0 →
        step s = .next { s with stimuli := rest, cfgStatus := .configError, cfgCause := .emptyList }) ∧
      (m.Valid a k → ok = false → step s = .next
        { s with
          stimuli := rest, cfgStatus := .configError, cfgCause := .portUnusable
          lineLog := s.lineLog ++ [.raiseOpen, .lowerOpen] }) ∧
      (m.Valid a k → ok = true → m = .single → step s = .next
        { s with
          stimuli := rest, cfgStatus := .ready, cfgMode := .single, cfgAddr := a
          lineLog := s.lineLog ++ [.raiseOpen, .lowerOpen] }) ∧
      (m.Valid a k → ok = true → m = .line → step s = .next
        { s with
          stimuli := rest, cfgStatus := .ready, cfgMode := .line, cfgAmask := k
          lineLog := s.lineLog ++ [.raiseOpen, .lowerOpen] }))

/-- `rst` in any state, an exchange in flight among them: the registers R37 names take their reset values, no result stands, the line
is closed; the parameters and the schedule stay (log 19). -/
def Obligations.ResetAbandonsTheExchange : Prop :=
  ∀ (s : State) (rest : List Stimulus), s.stimuli = .rst :: rest →
    ∃ t, step s = .next t ∧ t.cfgStatus = .unconfigured ∧ t.st = .idle ∧ t.lineOpen = false ∧ t.rxEn = false ∧ t.rlen = 0 ∧
      t.rovf = false ∧ t.resValid = false ∧ t.params = s.params ∧ t.stimuli = rest ∧
      t.lineLog = s.lineLog ++ (if s.lineOpen then [.lowerOpen] else [])

/-- The state after reset: the values R37 gives. -/
def Obligations.ResetLeavesTheStatedValues : Prop :=
  State.reset.cfgStatus = .unconfigured ∧ State.reset.st = .idle ∧ State.reset.lineOpen = false ∧ State.reset.rxEn = false ∧
  State.reset.rlen = 0 ∧ State.reset.rovf = false ∧ State.reset.resValid = false ∧ (ports State.reset).reqReady = true

/-! ### The whole machine -/

/-- Every move of ST is a row of R200's table, or ST stays: no step but `rst` moves the exchange otherwise. -/
def Obligations.StateMovesFollowTheTable : Prop :=
  ∀ s t : State, step s = .next t → nextMove s ≠ .rst → t.st = s.st ∨ TableMove s t

/-- The invariants of R216, with what makes them inductive, hold right after reset. -/
def Obligations.ResetSatisfiesTheInvariant : Prop := Inv State.reset

/-- Every step keeps them, from every state that has them. -/
def Obligations.StepKeepsTheInvariant : Prop := ∀ s t : State, Inv s → step s = .next t → Inv t

/-- From such a state every step answers a next state: nothing faults, nothing is refused. -/
def Obligations.InvariantStatesNeverStop : Prop := ∀ s : State, Inv s → ∃ t, step s = .next t

/-- Every step keeps the response buffer's bytes in canonical form, from every state that has it. -/
def Obligations.StepKeepsMemoryCanonical : Prop := ∀ s t : State, s.rb.wf = true → step s = .next t → t.rb.wf = true

/-- RB is written by the receive append alone: any step but `rst` leaves every byte as it was, but for the byte at RLEN that a receive
append inside the window stores. -/
def Obligations.OnlyTheReceivePathWritesTheBuffer : Prop :=
  ∀ s t : State, s.rb.wf = true → step s = .next t → nextMove s ≠ .rst →
    SameBytes s t ∨
    ∃ b, nextMove s = .rx b ∧ s.rxEn = true ∧ s.rlen.toNat < 8 ∧
      ∀ a, t.rb.read a = if a = s.rlen.toNat then some b else s.rb.read a

/-- While READY no step but `rst` writes a configuration register; any step that changes one is a configuration from UNCONFIGURED or
`rst`; no step at all changes the parameters. -/
def Obligations.ConfigurationIsImmutable : Prop :=
  ∀ s t : State, step s = .next t →
    t.params = s.params ∧
    (s.cfgStatus = .ready → nextMove s ≠ .rst → cfgRegs t = cfgRegs s) ∧
    (nextMove s ≠ .rst → (t.cfgMode, t.cfgAddr, t.cfgAmask) ≠ (s.cfgMode, s.cfgAddr, s.cfgAmask) →
      (∃ m a k ok, nextMove s = .config m a k ok) ∧ s.cfgStatus = .unconfigured ∧ t.cfgStatus = .ready)

/-- CONFIG_ERROR is sticky: only `rst` leaves it; in IDLE the line sees nothing, and a request that the FSM takes up is refused. -/
def Obligations.ConfigErrorIsSticky : Prop :=
  ∀ s t : State, s.cfgStatus = .configError → step s = .next t → nextMove s ≠ .rst →
    t.cfgStatus = .configError ∧ t.cfgCause = s.cfgCause ∧
    (s.st = .idle → t.st = .idle ∧ t.lineLog = s.lineLog) ∧
    ∀ r, s.st = .idle → nextMove s = .fsm → s.reqPort = some r → resultRegs t = (true, .refused, (decode r).cmd)

/-- What the line sees of a step: a byte only from SEND, and then FRAME[TXI]; the line raised only by the open answer or a probe. -/
def Obligations.LineSeesOnlyFrameBytes : Prop :=
  ∀ s t : State, step s = .next t →
    ∃ acts, t.lineLog = s.lineLog ++ acts ∧
      (∀ b, .tx b ∈ acts → s.st = .send ∧ nextMove s = .txReady ∧ s.frame.get s.txi.toNat = some b ∧ acts = [.tx b]) ∧
      (.raiseOpen ∈ acts → (s.st = .opening ∧ ∃ ok, nextMove s = .openAns ok) ∨
        ∃ m a k, (∃ ok, nextMove s = .config (modeCode m) a k ok) ∧ m.Valid a k)

/-- The result registers are changed only by ACCEPT, a failed open, CLOSE and `rst`: never by a tick, a received byte, a byte sent or a
request that is merely presented. The failed open follows R203 against R34 (log 24). The buffer, the other part of R209's result, is
not included. -/
def Obligations.ResultHoldsUntilTheNextAccept : Prop :=
  ∀ s t : State, step s = .next t → resultRegs t ≠ resultRegs s →
    nextMove s = .rst ∨ (nextMove s = .fsm ∧ s.st = .idle ∧ s.reqPort ≠ none) ∨
    (nextMove s = .openAns false ∧ s.st = .opening) ∨ (nextMove s = .fsm ∧ s.st = .close)

/-- A reply that has passed its length is never complete again before the next ARM: the excess stays through every step of the window,
and CLOSE then judges FAIL. -/
def Obligations.OverlongRepliesNeverComplete : Prop :=
  ∀ s t : State, ExchangeInv s → (s.rovf = true ∨ s.exp.toNat < s.rlen.toNat) →
    (s.st = .send ∨ s.st = .wait ∨ s.st = .sleep ∨ s.st = .close) → step s = .next t → nextMove s ≠ .rst →
    complete s = false ∧ (t.rovf = true ∨ t.exp.toNat < t.rlen.toNat) ∧
    (s.st = .close → t.st = .idle → resultRegs t = (true, .fail, s.curCmd))

/-- The late byte: CLOSE after one more byte fails, though the reply was complete. -/
def Obligations.LateByteTurnsSuccessIntoFailure : Prop :=
  ∀ (s : State) (b : Byte) (rest : List Stimulus), s.st = .close → s.rxEn = true → complete s = true → s.exp.toNat ≤ 8 →
    s.stimuli = .rx b :: .fsm :: rest →
    ∃ t, run 2 s = .next t ∧ t.st = .idle ∧ resultRegs t = (true, .fail, s.curCmd)

/-! ### The deadline and the end of an exchange -/

/-- The check after `j` sleeps with the reply not complete takes the deadline exit exactly from `j = K` on, and the sleep of an
exchange stays below the deadline plus one poll; K is 34 at the defaults. The schedule is the model's (log 1). -/
def Obligations.DeadlineAfterKPolls : Prop :=
  (∀ (p : Params) (j : Nat), 1 ≤ p.pollMs →
    (p.timeoutMs ≤ j * p.pollMs ↔ maxSleeps p ≤ j) ∧ maxSleeps p * p.pollMs < p.timeoutMs + p.pollMs) ∧
  (∀ (s : State) (rest : List Stimulus) (j : Nat), s.st = .wait → s.stimuli = .fsm :: rest → complete s = false →
    1 ≤ s.params.pollMs → s.elapsed = j * s.params.pollMs →
    step s = .next { s with stimuli := rest, st := if maxSleeps s.params ≤ j then .close else .sleep }) ∧
  (∀ s : State, Inv s → s.st = .wait ∨ s.st = .sleep → s.elapsed ≤ maxSleeps s.params * s.params.pollMs) ∧
  maxSleeps Config.params = 34

/-- An accepted request has at most FLEN + 2K + 4 FSM steps before it; each enabled FSM step uses one up or more, and no other move but
`rst` adds or removes any. -/
def Obligations.EveryEnabledStepComesCloser : Prop :=
  (∀ (i : Instr) (s t : State), s.st = .idle → exec i s = .next t → t.st = .opening →
    fsmStepsLeft t = t.flen.toNat + 2 * maxSleeps s.params + 4 ∧ t.flen.toNat ≤ 5) ∧
  ∀ s t : State, Inv s → s.st ≠ .idle → step s = .next t → nextMove s ≠ .rst →
    (enables (nextMove s) s.st = true → fsmStepsLeft t < fsmStepsLeft s) ∧
    (enables (nextMove s) s.st = false → fsmStepsLeft t = fsmStepsLeft s ∧ t.st = s.st)

/-- Under the three fairness conditions every exchange returns to IDLE: within as many fair stretches of the schedule as FSM steps are
left, whatever else the other agents do meanwhile. -/
def Obligations.FairExchangesReturnToIdle : Prop :=
  ∀ (rounds : List (List Stimulus)) (rest : List Stimulus) (s : State), Inv s →
    s.stimuli = rounds.flatten ++ rest → (∀ r ∈ rounds, FairRound r) → fsmStepsLeft s ≤ rounds.length →
    ∃ n t, n ≤ rounds.flatten.length ∧ run n s = .next t ∧ t.st = .idle

/-- A whole exchange of any admitted request, opened at once and answered in full before the first check: the line sees the frame and
nothing else, the reply stands in the buffer, and the result is OK for a read and the echo's verdict for a write. -/
def Obligations.PromptExchangeDeliversTheReply : Prop :=
  ∀ (s : State) (i : Instr) (bytes : List Byte) (rest : List Stimulus),
    Inv s → s.st = .idle → s.cfgStatus = .ready → Belongs i.cmd s.cfgMode → s.reqPort = some (encode i) →
    bytes.length = expLen s.cfgAmask i.cmd →
    s.stimuli = promptSchedule (frameLen (formatOf i.cmd)).toNat bytes ++ rest →
    ∃ t, run (promptSchedule (frameLen (formatOf i.cmd)).toNat bytes).length s = .next t ∧
      t.st = .idle ∧ t.lineOpen = false ∧ t.resValid = true ∧ t.resCmd = i.cmd ∧ memRead t 0 bytes.length = some bytes ∧
      t.resKind = (if i.cmd.isWrite = true ∧ bytes ≠ expectedEcho s.params.echoOrder i.q then .fail else .ok) ∧
      t.lineLog = s.lineLog ++ exchangeActs (encodeFrame i.cmd i.q s).bytes ∧ t.stimuli = rest ∧
      cfgRegs t = cfgRegs s ∧ t.params = s.params

/-- A whole exchange that nobody answers: exactly K sleeps, then FAIL, with the sleep it took in ELAPSED. -/
def Obligations.SilentExchangeFailsAfterKSleeps : Prop :=
  ∀ (s : State) (i : Instr) (rest : List Stimulus),
    Inv s → s.st = .idle → s.cfgStatus = .ready → Belongs i.cmd s.cfgMode → s.reqPort = some (encode i) →
    s.stimuli = silentSchedule (frameLen (formatOf i.cmd)).toNat (maxSleeps s.params) ++ rest →
    ∃ t, run (silentSchedule (frameLen (formatOf i.cmd)).toNat (maxSleeps s.params)).length s = .next t ∧
      t.st = .idle ∧ resultRegs t = (true, .fail, i.cmd) ∧ t.elapsed = maxSleeps s.params * s.params.pollMs ∧
      t.lineLog = s.lineLog ++ exchangeActs (encodeFrame i.cmd i.q s).bytes ∧ t.stimuli = rest

/-! ### Checksum and unpackers -/

/-- The checksum is the exclusive OR of all bytes, built from the empty sequence's 0 byte by byte. -/
def Obligations.ChecksumIsTheXorFold : Prop :=
  checksum [] = 0x00 ∧ ∀ (s : List Byte) (b : Byte), checksum (s ++ [b]) = checksum s ^^^ b

/-- Bit `k` of the checksum is the parity of bit `k` of every byte. -/
def Obligations.ChecksumBitsAreParities : Prop :=
  ∀ (s : List Byte) (k : Nat), (checksum s).getLsbD k = decide (s.countP (fun b => b.getLsbD k) % 2 = 1)

/-- The laws of R142, the two frames that fold to 0 among them. -/
def Obligations.ChecksumLaws : Prop :=
  checksum [] = 0 ∧ (∀ a : Byte, checksum [a] = a) ∧ (∀ s : List Byte, checksum s ^^^ 0 = checksum s) ∧
  (∀ a b : List Byte, checksum (a ++ b) = checksum a ^^^ checksum b) ∧
  (∀ s p : List Byte, s.Perm p → checksum s = checksum p) ∧
  (∀ s : List Byte, checksum (s ++ [checksum s]) = 0) ∧
  (∀ (op : Byte) (a : BitVec 3) (q : Word16), checksum (frameWrite op a q).tail = 0) ∧
  (∀ (op : Byte) (m : BitVec 4), checksum (frameLine op m).tail = 0) ∧
  (∀ x : Byte, checksum [x, x] = 0)

/-- A reply of `w` bytes is the big-endian sum of R172, and the four unpackers are this sum at two or three bytes. -/
def Obligations.IntegersAreBigEndian : Prop :=
  ∀ s : List Byte,
    decodeInteger s = ((List.range s.length).map (fun k => (s.getD k 0).toNat * 256 ^ (s.length - 1 - k))).sum ∧
    (s.length = 2 →
      decodeTemperature s = some ((decodeInteger s : Int) - 1000) ∧
      (∃ r, decodeRatio s = some r ∧ r.toNat = decodeInteger s) ∧ ∃ w, decodeFirmwareWord s = some w ∧ w.toNat = decodeInteger s) ∧
    (s.length = 3 → ∃ n, decodeSerial s = some n ∧ n.toNat = decodeInteger s)

/-- Temperature: tenths of a degree, offset 1000, of exactly two bytes, -1000 to 64535. -/
def Obligations.TemperatureDecodes : Prop :=
  (∀ s : List Byte, s.length ≠ 2 → decodeTemperature s = none) ∧
  ∀ a b : Byte, ∃ t10 : Int, decodeTemperature [a, b] = some t10 ∧ t10 = (a.toNat : Int) * 256 + (b.toNat : Int) - 1000 ∧
    -1000 ≤ t10 ∧ t10 ≤ 64535

/-- Ratio, serial number and firmware version: exactly their width, most significant byte first; the serial number's top byte is 0;
the firmware word is signed only under FW_SIGNED. -/
def Obligations.RatioSerialFirmwareDecode : Prop :=
  (∀ s : List Byte, s.length ≠ 2 → decodeRatio s = none ∧ decodeFirmwareWord s = none ∧ ∀ f, decodeFirmware f s = none) ∧
  (∀ s : List Byte, s.length ≠ 3 → decodeSerial s = none) ∧
  (∀ a b : Byte, decodeRatio [a, b] = some (a ++ b)) ∧
  (∀ a b c : Byte, ∃ sn, decodeSerial [a, b, c] = some sn ∧ sn.toNat = a.toNat * 65536 + b.toNat * 256 + c.toNat ∧
    sn.extractLsb' 24 8 = 0#8) ∧
  (∀ a b : Byte, decodeFirmwareWord [a, b] = some (a ++ b) ∧
    decodeFirmware false [a, b] = some ((a.toNat * 256 + b.toNat : Nat) : Int) ∧
    decodeFirmware true [a, b] =
      some (if a.toNat * 256 + b.toNat < 0x8000 then ((a.toNat * 256 + b.toNat : Nat) : Int)
            else ((a.toNat * 256 + b.toNat : Nat) : Int) - 65536))

/-- The echo check compares RB[0] and RB[1] with the payload in the order ECHO_ORDER names. -/
def Obligations.EchoComparesThePayload : Prop :=
  ∀ (s : State) (q : Word16),
    (s.params.echoOrder = .same →
      (echoOk q s = true ↔ s.rb.read 0 = some (q.extractLsb' 8 8) ∧ s.rb.read 1 = some (q.extractLsb' 0 8))) ∧
    (s.params.echoOrder = .reversed →
      (echoOk q s = true ↔ s.rb.read 0 = some (q.extractLsb' 0 8) ∧ s.rb.read 1 = some (q.extractLsb' 8 8)))

/-- Line mode: chunk `i` goes to address `i + 1` for `i` below LINE_CNT, whatever the configured set; the other addresses of 1 to 4
get no value and LINE_HAS = 0; no other LINE_T10 or LINE_HAS exists. -/
def Obligations.LineChunksGoToConsecutiveAddresses : Prop :=
  ∀ s : State, s.resValid = true → s.resKind = .ok → s.resCmd = .readTempLine → ∀ j : Nat,
    (1 ≤ j ∧ j ≤ lineCnt s.cfgAmask →
      ∃ a b, s.rb.read (2 * (j - 1)) = some a ∧ s.rb.read (2 * (j - 1) + 1) = some b ∧
        outLineT10 s j = some ((a.toNat : Int) * 256 + (b.toNat : Int) - 1000) ∧ outLineHas s j = some true) ∧
    (lineCnt s.cfgAmask < j ∧ j ≤ 4 → outLineT10 s j = none ∧ outLineHas s j = some false) ∧
    (j = 0 ∨ 4 < j → outLineT10 s j = none ∧ outLineHas s j = none)

/-- Without a standing OK result no decoded output has a value, LINE_HAS among them, and an output has one only for its own command. -/
def Obligations.OutputsNeedAnOkResult : Prop :=
  (∀ s : State, s.resValid = false ∨ s.resKind ≠ .ok →
    outT10 s = none ∧ outSN s = none ∧ outFWW s = none ∧ outFW s = none ∧ outR1000 s = none ∧ reply s = none ∧
    ∀ j, outLineT10 s j = none ∧ outLineHas s j = none) ∧
  ∀ s : State,
    (s.resCmd ≠ .readTemp → outT10 s = none) ∧ (s.resCmd ≠ .readSerial → outSN s = none) ∧
    (s.resCmd ≠ .readFw → outFWW s = none ∧ outFW s = none) ∧
    (s.resCmd ≠ .readEmi → s.resCmd ≠ .readTrans → outR1000 s = none) ∧
    (s.resCmd ≠ .readTempLine → ∀ j, outLineT10 s j = none ∧ outLineHas s j = none)

/-- In every invariant state a standing OK result decodes: the output of its command has the value the reply's bytes give. -/
def Obligations.OkResultsAlwaysDecode : Prop :=
  ∀ s : State, Inv s → s.resValid = true → s.resKind = .ok →
    ∃ bytes, memRead s 0 s.rlen.toNat = some bytes ∧ bytes.length = expLen s.cfgAmask s.resCmd ∧
      (s.resCmd = .readTemp → outT10 s = some ((decodeInteger bytes : Int) - 1000)) ∧
      (s.resCmd = .readSerial → outSN s = some (BitVec.ofNat 32 (decodeInteger bytes))) ∧
      (s.resCmd = .readFw → outFWW s = some (BitVec.ofNat 16 (decodeInteger bytes)) ∧
        outFW s = decodeFirmware s.params.fwSigned bytes ∧
        outFW s = some (if s.params.fwSigned = true ∧ 0x8000 ≤ decodeInteger bytes then (decodeInteger bytes : Int) - 65536
          else (decodeInteger bytes : Int))) ∧
      (s.resCmd = .readEmi ∨ s.resCmd = .readTrans → outR1000 s = some (BitVec.ofNat 16 (decodeInteger bytes))) ∧
      (s.resCmd = .readTempLine → ∀ j, (outLineT10 s j).isSome = decide (1 ≤ j ∧ j ≤ lineCnt s.cfgAmask) ∧
        (1 ≤ j → j ≤ 4 → outLineHas s j = some (decide (j ≤ lineCnt s.cfgAmask))))

/-! ### Ports and the client's side -/

/-- The output ports of R217: the configuration's status and cause and the result registers as their codes, RLEN and RB; DTR and RTS
follow LINE_OPEN, `req_ready` is 1 exactly in IDLE, `tx_valid` exactly in SEND, where the data is the next frame byte. -/
def Obligations.PortsFollowTheRegisters : Prop :=
  ∀ s : State,
    (ports s).cfgStatus = s.cfgStatus.code ∧ (ports s).cfgCause = s.cfgCause.code ∧
    (ports s).resValid = s.resValid ∧ (ports s).resKind = s.resKind.code ∧ (ports s).resCmd = s.resCmd.code ∧
    (ports s).lineOpen = s.lineOpen ∧ (ports s).dtr = s.lineOpen ∧ (ports s).rts = s.lineOpen ∧
    ((ports s).reqReady = true ↔ s.st = .idle) ∧ ((ports s).txValid = true ↔ s.st = .send) ∧
    (ports s).txData = s.frame.get s.txi.toNat ∧ (Inv s → s.st = .send → (ports s).txData.isSome = true) ∧
    (ports s).resLen = s.rlen ∧ ∀ k, k < 8 → (ports s).resBytes[k]? = s.rb.read k

/-- The codes of R245. -/
def Obligations.CodesAreTheTables : Prop :=
  ResKind.ok.code = 0 ∧ ResKind.fail.code = 1 ∧ ResKind.refused.code = 2 ∧
  CfgStatus.unconfigured.code = 0 ∧ CfgStatus.ready.code = 1 ∧ CfgStatus.configError.code = 2 ∧
  CfgCause.badAddr.code = 0 ∧ CfgCause.emptyList.code = 1 ∧ CfgCause.portUnusable.code = 2 ∧
  (∀ k : ResKind, k.code ≠ 3) ∧ (∀ k : CfgStatus, k.code ≠ 3) ∧ (∀ k : CfgCause, k.code ≠ 3)

/-- The source's round trip of a ratio: under any rounding that leaves integers alone, a value of `n` thousandths, `n` at most 1100,
written and read back is `n`; and the pseudo-requests, whatever the open part of Q_ROUND, write exactly `n` (log 13). -/
def Obligations.RatioRoundTrip : Prop :=
  (∀ n : Nat, n ≤ 1100 →
    pseudoWriteEmi ((n : ℚ) / 1000) = .writeEmi (BitVec.ofNat 16 n) ∧
    pseudoWriteTrans ((n : ℚ) / 1000) = .writeTrans (BitVec.ofNat 16 n)) ∧
  ∀ (r : ℚ → ℤ), (∀ n : ℤ, r (n : ℚ) = n) → ∀ n : Nat, n ≤ 1100 →
    (quantize r ((n : ℚ) / 1000)).toNat = n ∧
    decodeRatio (encodePayload (quantize r ((n : ℚ) / 1000))) = some (BitVec.ofNat 16 n)

/-- A written request of R85 is well formed: a read written without `q=` drives 0. -/
def Obligations.WrittenRequestsAreWellFormed : Prop :=
  ∀ (r : ℚ → ℤ) (ws : List (List Char)) (req : Request), parseRequest r ws = some req → (decode req).WellFormed

/-- The port's bit `cfg_mode` and the register CFG_MODE: 0 is SINGLE, 1 is LINE, and a configuration that leads to READY writes the
mode its bit selects. The schedule is the model's (log 1). -/
def Obligations.ModeBitSelectsTheMode : Prop :=
  modeCode .single = 0 ∧ modeCode .line = 1 ∧ (∀ b : BitVec 1, modeCode (modeOfCode b) = b) ∧
  (∀ m : CfgMode, modeOfCode (modeCode m) = m) ∧
  ∀ (s t : State) (b : BitVec 1) (a : BitVec 3) (k : BitVec 4) (ok : Bool), nextMove s = .config b a k ok →
    s.cfgStatus = .unconfigured → step s = .next t → t.cfgStatus = .ready → modeCode t.cfgMode = b
end

