-- ==== Sys2Proof/Laws/State.lean ====
section
/-! SUPPORT. One lemma per field per named update of State, so that no proof unfolds a record update. -/

namespace Sys2Proof.Machine

variable (s : State)

@[simp] theorem State.raiseFail_eq : s.raiseFail = s.setResult .fail s.curCmd := rfl
@[simp] theorem State.raiseRefused_eq (c : Cmd) : s.raiseRefused c = s.setResult .refused c := rfl
@[simp] theorem State.probe_eq : s.probe = (s.setLineOpen true).setLineOpen false := rfl

/-! ### `setLineOpen` -/

@[simp] theorem State.setLineOpen_cfgMode (v : Bool) : (s.setLineOpen v).cfgMode = s.cfgMode := rfl
@[simp] theorem State.setLineOpen_cfgAddr (v : Bool) : (s.setLineOpen v).cfgAddr = s.cfgAddr := rfl
@[simp] theorem State.setLineOpen_cfgAmask (v : Bool) : (s.setLineOpen v).cfgAmask = s.cfgAmask := rfl
@[simp] theorem State.setLineOpen_cfgStatus (v : Bool) : (s.setLineOpen v).cfgStatus = s.cfgStatus := rfl
@[simp] theorem State.setLineOpen_cfgCause (v : Bool) : (s.setLineOpen v).cfgCause = s.cfgCause := rfl
@[simp] theorem State.setLineOpen_st (v : Bool) : (s.setLineOpen v).st = s.st := rfl
@[simp] theorem State.setLineOpen_curCmd (v : Bool) : (s.setLineOpen v).curCmd = s.curCmd := rfl
@[simp] theorem State.setLineOpen_curQ (v : Bool) : (s.setLineOpen v).curQ = s.curQ := rfl
@[simp] theorem State.setLineOpen_frame (v : Bool) : (s.setLineOpen v).frame = s.frame := rfl
@[simp] theorem State.setLineOpen_flen (v : Bool) : (s.setLineOpen v).flen = s.flen := rfl
@[simp] theorem State.setLineOpen_txi (v : Bool) : (s.setLineOpen v).txi = s.txi := rfl
@[simp] theorem State.setLineOpen_exp (v : Bool) : (s.setLineOpen v).exp = s.exp := rfl
@[simp] theorem State.setLineOpen_elapsed (v : Bool) : (s.setLineOpen v).elapsed = s.elapsed := rfl
@[simp] theorem State.setLineOpen_lineOpen (v : Bool) : (s.setLineOpen v).lineOpen = v := rfl
@[simp] theorem State.setLineOpen_rxEn (v : Bool) : (s.setLineOpen v).rxEn = s.rxEn := rfl
@[simp] theorem State.setLineOpen_rb (v : Bool) : (s.setLineOpen v).rb = s.rb := rfl
@[simp] theorem State.setLineOpen_rlen (v : Bool) : (s.setLineOpen v).rlen = s.rlen := rfl
@[simp] theorem State.setLineOpen_rovf (v : Bool) : (s.setLineOpen v).rovf = s.rovf := rfl
@[simp] theorem State.setLineOpen_resValid (v : Bool) : (s.setLineOpen v).resValid = s.resValid := rfl
@[simp] theorem State.setLineOpen_resKind (v : Bool) : (s.setLineOpen v).resKind = s.resKind := rfl
@[simp] theorem State.setLineOpen_resCmd (v : Bool) : (s.setLineOpen v).resCmd = s.resCmd := rfl
@[simp] theorem State.setLineOpen_params (v : Bool) : (s.setLineOpen v).params = s.params := rfl
@[simp] theorem State.setLineOpen_reqPort (v : Bool) : (s.setLineOpen v).reqPort = s.reqPort := rfl
@[simp] theorem State.setLineOpen_stimuli (v : Bool) : (s.setLineOpen v).stimuli = s.stimuli := rfl
@[simp] theorem State.setLineOpen_lineLog (v : Bool) : (s.setLineOpen v).lineLog = s.lineLog ++ (if s.lineOpen = v then [] else if v then [.raiseOpen] else [.lowerOpen]) := rfl

/-! ### `emitTx` -/

@[simp] theorem State.emitTx_cfgMode (b : Byte) : (s.emitTx b).cfgMode = s.cfgMode := rfl
@[simp] theorem State.emitTx_cfgAddr (b : Byte) : (s.emitTx b).cfgAddr = s.cfgAddr := rfl
@[simp] theorem State.emitTx_cfgAmask (b : Byte) : (s.emitTx b).cfgAmask = s.cfgAmask := rfl
@[simp] theorem State.emitTx_cfgStatus (b : Byte) : (s.emitTx b).cfgStatus = s.cfgStatus := rfl
@[simp] theorem State.emitTx_cfgCause (b : Byte) : (s.emitTx b).cfgCause = s.cfgCause := rfl
@[simp] theorem State.emitTx_st (b : Byte) : (s.emitTx b).st = s.st := rfl
@[simp] theorem State.emitTx_curCmd (b : Byte) : (s.emitTx b).curCmd = s.curCmd := rfl
@[simp] theorem State.emitTx_curQ (b : Byte) : (s.emitTx b).curQ = s.curQ := rfl
@[simp] theorem State.emitTx_frame (b : Byte) : (s.emitTx b).frame = s.frame := rfl
@[simp] theorem State.emitTx_flen (b : Byte) : (s.emitTx b).flen = s.flen := rfl
@[simp] theorem State.emitTx_txi (b : Byte) : (s.emitTx b).txi = s.txi := rfl
@[simp] theorem State.emitTx_exp (b : Byte) : (s.emitTx b).exp = s.exp := rfl
@[simp] theorem State.emitTx_elapsed (b : Byte) : (s.emitTx b).elapsed = s.elapsed := rfl
@[simp] theorem State.emitTx_lineOpen (b : Byte) : (s.emitTx b).lineOpen = s.lineOpen := rfl
@[simp] theorem State.emitTx_rxEn (b : Byte) : (s.emitTx b).rxEn = s.rxEn := rfl
@[simp] theorem State.emitTx_rb (b : Byte) : (s.emitTx b).rb = s.rb := rfl
@[simp] theorem State.emitTx_rlen (b : Byte) : (s.emitTx b).rlen = s.rlen := rfl
@[simp] theorem State.emitTx_rovf (b : Byte) : (s.emitTx b).rovf = s.rovf := rfl
@[simp] theorem State.emitTx_resValid (b : Byte) : (s.emitTx b).resValid = s.resValid := rfl
@[simp] theorem State.emitTx_resKind (b : Byte) : (s.emitTx b).resKind = s.resKind := rfl
@[simp] theorem State.emitTx_resCmd (b : Byte) : (s.emitTx b).resCmd = s.resCmd := rfl
@[simp] theorem State.emitTx_params (b : Byte) : (s.emitTx b).params = s.params := rfl
@[simp] theorem State.emitTx_reqPort (b : Byte) : (s.emitTx b).reqPort = s.reqPort := rfl
@[simp] theorem State.emitTx_stimuli (b : Byte) : (s.emitTx b).stimuli = s.stimuli := rfl
@[simp] theorem State.emitTx_lineLog (b : Byte) : (s.emitTx b).lineLog = s.lineLog ++ [.tx b] := rfl

/-! ### `clearBuffer` -/

@[simp] theorem State.clearBuffer_cfgMode : s.clearBuffer.cfgMode = s.cfgMode := rfl
@[simp] theorem State.clearBuffer_cfgAddr : s.clearBuffer.cfgAddr = s.cfgAddr := rfl
@[simp] theorem State.clearBuffer_cfgAmask : s.clearBuffer.cfgAmask = s.cfgAmask := rfl
@[simp] theorem State.clearBuffer_cfgStatus : s.clearBuffer.cfgStatus = s.cfgStatus := rfl
@[simp] theorem State.clearBuffer_cfgCause : s.clearBuffer.cfgCause = s.cfgCause := rfl
@[simp] theorem State.clearBuffer_st : s.clearBuffer.st = s.st := rfl
@[simp] theorem State.clearBuffer_curCmd : s.clearBuffer.curCmd = s.curCmd := rfl
@[simp] theorem State.clearBuffer_curQ : s.clearBuffer.curQ = s.curQ := rfl
@[simp] theorem State.clearBuffer_frame : s.clearBuffer.frame = s.frame := rfl
@[simp] theorem State.clearBuffer_flen : s.clearBuffer.flen = s.flen := rfl
@[simp] theorem State.clearBuffer_txi : s.clearBuffer.txi = s.txi := rfl
@[simp] theorem State.clearBuffer_exp : s.clearBuffer.exp = s.exp := rfl
@[simp] theorem State.clearBuffer_elapsed : s.clearBuffer.elapsed = s.elapsed := rfl
@[simp] theorem State.clearBuffer_lineOpen : s.clearBuffer.lineOpen = s.lineOpen := rfl
@[simp] theorem State.clearBuffer_rxEn : s.clearBuffer.rxEn = s.rxEn := rfl
@[simp] theorem State.clearBuffer_rb : s.clearBuffer.rb = s.rb := rfl
@[simp] theorem State.clearBuffer_rlen : s.clearBuffer.rlen = 0 := rfl
@[simp] theorem State.clearBuffer_rovf : s.clearBuffer.rovf = false := rfl
@[simp] theorem State.clearBuffer_resValid : s.clearBuffer.resValid = s.resValid := rfl
@[simp] theorem State.clearBuffer_resKind : s.clearBuffer.resKind = s.resKind := rfl
@[simp] theorem State.clearBuffer_resCmd : s.clearBuffer.resCmd = s.resCmd := rfl
@[simp] theorem State.clearBuffer_params : s.clearBuffer.params = s.params := rfl
@[simp] theorem State.clearBuffer_reqPort : s.clearBuffer.reqPort = s.reqPort := rfl
@[simp] theorem State.clearBuffer_stimuli : s.clearBuffer.stimuli = s.stimuli := rfl
@[simp] theorem State.clearBuffer_lineLog : s.clearBuffer.lineLog = s.lineLog := rfl

/-! ### `setResult` -/

@[simp] theorem State.setResult_cfgMode (k : ResKind) (c : Cmd) : (s.setResult k c).cfgMode = s.cfgMode := rfl
@[simp] theorem State.setResult_cfgAddr (k : ResKind) (c : Cmd) : (s.setResult k c).cfgAddr = s.cfgAddr := rfl
@[simp] theorem State.setResult_cfgAmask (k : ResKind) (c : Cmd) : (s.setResult k c).cfgAmask = s.cfgAmask := rfl
@[simp] theorem State.setResult_cfgStatus (k : ResKind) (c : Cmd) : (s.setResult k c).cfgStatus = s.cfgStatus := rfl
@[simp] theorem State.setResult_cfgCause (k : ResKind) (c : Cmd) : (s.setResult k c).cfgCause = s.cfgCause := rfl
@[simp] theorem State.setResult_st (k : ResKind) (c : Cmd) : (s.setResult k c).st = s.st := rfl
@[simp] theorem State.setResult_curCmd (k : ResKind) (c : Cmd) : (s.setResult k c).curCmd = s.curCmd := rfl
@[simp] theorem State.setResult_curQ (k : ResKind) (c : Cmd) : (s.setResult k c).curQ = s.curQ := rfl
@[simp] theorem State.setResult_frame (k : ResKind) (c : Cmd) : (s.setResult k c).frame = s.frame := rfl
@[simp] theorem State.setResult_flen (k : ResKind) (c : Cmd) : (s.setResult k c).flen = s.flen := rfl
@[simp] theorem State.setResult_txi (k : ResKind) (c : Cmd) : (s.setResult k c).txi = s.txi := rfl
@[simp] theorem State.setResult_exp (k : ResKind) (c : Cmd) : (s.setResult k c).exp = s.exp := rfl
@[simp] theorem State.setResult_elapsed (k : ResKind) (c : Cmd) : (s.setResult k c).elapsed = s.elapsed := rfl
@[simp] theorem State.setResult_lineOpen (k : ResKind) (c : Cmd) : (s.setResult k c).lineOpen = s.lineOpen := rfl
@[simp] theorem State.setResult_rxEn (k : ResKind) (c : Cmd) : (s.setResult k c).rxEn = s.rxEn := rfl
@[simp] theorem State.setResult_rb (k : ResKind) (c : Cmd) : (s.setResult k c).rb = s.rb := rfl
@[simp] theorem State.setResult_rlen (k : ResKind) (c : Cmd) : (s.setResult k c).rlen = s.rlen := rfl
@[simp] theorem State.setResult_rovf (k : ResKind) (c : Cmd) : (s.setResult k c).rovf = s.rovf := rfl
@[simp] theorem State.setResult_resValid (k : ResKind) (c : Cmd) : (s.setResult k c).resValid = true := rfl
@[simp] theorem State.setResult_resKind (k : ResKind) (c : Cmd) : (s.setResult k c).resKind = k := rfl
@[simp] theorem State.setResult_resCmd (k : ResKind) (c : Cmd) : (s.setResult k c).resCmd = c := rfl
@[simp] theorem State.setResult_params (k : ResKind) (c : Cmd) : (s.setResult k c).params = s.params := rfl
@[simp] theorem State.setResult_reqPort (k : ResKind) (c : Cmd) : (s.setResult k c).reqPort = s.reqPort := rfl
@[simp] theorem State.setResult_stimuli (k : ResKind) (c : Cmd) : (s.setResult k c).stimuli = s.stimuli := rfl
@[simp] theorem State.setResult_lineLog (k : ResKind) (c : Cmd) : (s.setResult k c).lineLog = s.lineLog := rfl

/-! ### `raiseConfigError` -/

@[simp] theorem State.raiseConfigError_cfgMode (c : CfgCause) : (s.raiseConfigError c).cfgMode = s.cfgMode := rfl
@[simp] theorem State.raiseConfigError_cfgAddr (c : CfgCause) : (s.raiseConfigError c).cfgAddr = s.cfgAddr := rfl
@[simp] theorem State.raiseConfigError_cfgAmask (c : CfgCause) : (s.raiseConfigError c).cfgAmask = s.cfgAmask := rfl
@[simp] theorem State.raiseConfigError_cfgStatus (c : CfgCause) : (s.raiseConfigError c).cfgStatus = .configError := rfl
@[simp] theorem State.raiseConfigError_cfgCause (c : CfgCause) : (s.raiseConfigError c).cfgCause = c := rfl
@[simp] theorem State.raiseConfigError_st (c : CfgCause) : (s.raiseConfigError c).st = s.st := rfl
@[simp] theorem State.raiseConfigError_curCmd (c : CfgCause) : (s.raiseConfigError c).curCmd = s.curCmd := rfl
@[simp] theorem State.raiseConfigError_curQ (c : CfgCause) : (s.raiseConfigError c).curQ = s.curQ := rfl
@[simp] theorem State.raiseConfigError_frame (c : CfgCause) : (s.raiseConfigError c).frame = s.frame := rfl
@[simp] theorem State.raiseConfigError_flen (c : CfgCause) : (s.raiseConfigError c).flen = s.flen := rfl
@[simp] theorem State.raiseConfigError_txi (c : CfgCause) : (s.raiseConfigError c).txi = s.txi := rfl
@[simp] theorem State.raiseConfigError_exp (c : CfgCause) : (s.raiseConfigError c).exp = s.exp := rfl
@[simp] theorem State.raiseConfigError_elapsed (c : CfgCause) : (s.raiseConfigError c).elapsed = s.elapsed := rfl
@[simp] theorem State.raiseConfigError_lineOpen (c : CfgCause) : (s.raiseConfigError c).lineOpen = s.lineOpen := rfl
@[simp] theorem State.raiseConfigError_rxEn (c : CfgCause) : (s.raiseConfigError c).rxEn = s.rxEn := rfl
@[simp] theorem State.raiseConfigError_rb (c : CfgCause) : (s.raiseConfigError c).rb = s.rb := rfl
@[simp] theorem State.raiseConfigError_rlen (c : CfgCause) : (s.raiseConfigError c).rlen = s.rlen := rfl
@[simp] theorem State.raiseConfigError_rovf (c : CfgCause) : (s.raiseConfigError c).rovf = s.rovf := rfl
@[simp] theorem State.raiseConfigError_resValid (c : CfgCause) : (s.raiseConfigError c).resValid = s.resValid := rfl
@[simp] theorem State.raiseConfigError_resKind (c : CfgCause) : (s.raiseConfigError c).resKind = s.resKind := rfl
@[simp] theorem State.raiseConfigError_resCmd (c : CfgCause) : (s.raiseConfigError c).resCmd = s.resCmd := rfl
@[simp] theorem State.raiseConfigError_params (c : CfgCause) : (s.raiseConfigError c).params = s.params := rfl
@[simp] theorem State.raiseConfigError_reqPort (c : CfgCause) : (s.raiseConfigError c).reqPort = s.reqPort := rfl
@[simp] theorem State.raiseConfigError_stimuli (c : CfgCause) : (s.raiseConfigError c).stimuli = s.stimuli := rfl
@[simp] theorem State.raiseConfigError_lineLog (c : CfgCause) : (s.raiseConfigError c).lineLog = s.lineLog := rfl

/-! ### `goto` -/

@[simp] theorem State.goto_cfgMode (e : ExchState) : (s.goto e).cfgMode = s.cfgMode := rfl
@[simp] theorem State.goto_cfgAddr (e : ExchState) : (s.goto e).cfgAddr = s.cfgAddr := rfl
@[simp] theorem State.goto_cfgAmask (e : ExchState) : (s.goto e).cfgAmask = s.cfgAmask := rfl
@[simp] theorem State.goto_cfgStatus (e : ExchState) : (s.goto e).cfgStatus = s.cfgStatus := rfl
@[simp] theorem State.goto_cfgCause (e : ExchState) : (s.goto e).cfgCause = s.cfgCause := rfl
@[simp] theorem State.goto_st (e : ExchState) : (s.goto e).st = e := rfl
@[simp] theorem State.goto_curCmd (e : ExchState) : (s.goto e).curCmd = s.curCmd := rfl
@[simp] theorem State.goto_curQ (e : ExchState) : (s.goto e).curQ = s.curQ := rfl
@[simp] theorem State.goto_frame (e : ExchState) : (s.goto e).frame = s.frame := rfl
@[simp] theorem State.goto_flen (e : ExchState) : (s.goto e).flen = s.flen := rfl
@[simp] theorem State.goto_txi (e : ExchState) : (s.goto e).txi = s.txi := rfl
@[simp] theorem State.goto_exp (e : ExchState) : (s.goto e).exp = s.exp := rfl
@[simp] theorem State.goto_elapsed (e : ExchState) : (s.goto e).elapsed = s.elapsed := rfl
@[simp] theorem State.goto_lineOpen (e : ExchState) : (s.goto e).lineOpen = s.lineOpen := rfl
@[simp] theorem State.goto_rxEn (e : ExchState) : (s.goto e).rxEn = s.rxEn := rfl
@[simp] theorem State.goto_rb (e : ExchState) : (s.goto e).rb = s.rb := rfl
@[simp] theorem State.goto_rlen (e : ExchState) : (s.goto e).rlen = s.rlen := rfl
@[simp] theorem State.goto_rovf (e : ExchState) : (s.goto e).rovf = s.rovf := rfl
@[simp] theorem State.goto_resValid (e : ExchState) : (s.goto e).resValid = s.resValid := rfl
@[simp] theorem State.goto_resKind (e : ExchState) : (s.goto e).resKind = s.resKind := rfl
@[simp] theorem State.goto_resCmd (e : ExchState) : (s.goto e).resCmd = s.resCmd := rfl
@[simp] theorem State.goto_params (e : ExchState) : (s.goto e).params = s.params := rfl
@[simp] theorem State.goto_reqPort (e : ExchState) : (s.goto e).reqPort = s.reqPort := rfl
@[simp] theorem State.goto_stimuli (e : ExchState) : (s.goto e).stimuli = s.stimuli := rfl
@[simp] theorem State.goto_lineLog (e : ExchState) : (s.goto e).lineLog = s.lineLog := rfl

/-! ### `latchRequest` -/

@[simp] theorem State.latchRequest_cfgMode (c : Cmd) (q : Word16) (e : Encoded) : (s.latchRequest c q e).cfgMode = s.cfgMode := rfl
@[simp] theorem State.latchRequest_cfgAddr (c : Cmd) (q : Word16) (e : Encoded) : (s.latchRequest c q e).cfgAddr = s.cfgAddr := rfl
@[simp] theorem State.latchRequest_cfgAmask (c : Cmd) (q : Word16) (e : Encoded) : (s.latchRequest c q e).cfgAmask = s.cfgAmask := rfl
@[simp] theorem State.latchRequest_cfgStatus (c : Cmd) (q : Word16) (e : Encoded) : (s.latchRequest c q e).cfgStatus = s.cfgStatus := rfl
@[simp] theorem State.latchRequest_cfgCause (c : Cmd) (q : Word16) (e : Encoded) : (s.latchRequest c q e).cfgCause = s.cfgCause := rfl
@[simp] theorem State.latchRequest_st (c : Cmd) (q : Word16) (e : Encoded) : (s.latchRequest c q e).st = .opening := rfl
@[simp] theorem State.latchRequest_curCmd (c : Cmd) (q : Word16) (e : Encoded) : (s.latchRequest c q e).curCmd = c := rfl
@[simp] theorem State.latchRequest_curQ (c : Cmd) (q : Word16) (e : Encoded) : (s.latchRequest c q e).curQ = q := rfl
@[simp] theorem State.latchRequest_frame (c : Cmd) (q : Word16) (e : Encoded) : (s.latchRequest c q e).frame = s.frame.load e.bytes := rfl
@[simp] theorem State.latchRequest_flen (c : Cmd) (q : Word16) (e : Encoded) : (s.latchRequest c q e).flen = e.flen := rfl
@[simp] theorem State.latchRequest_txi (c : Cmd) (q : Word16) (e : Encoded) : (s.latchRequest c q e).txi = s.txi := rfl
@[simp] theorem State.latchRequest_exp (c : Cmd) (q : Word16) (e : Encoded) : (s.latchRequest c q e).exp = e.exp := rfl
@[simp] theorem State.latchRequest_elapsed (c : Cmd) (q : Word16) (e : Encoded) : (s.latchRequest c q e).elapsed = s.elapsed := rfl
@[simp] theorem State.latchRequest_lineOpen (c : Cmd) (q : Word16) (e : Encoded) : (s.latchRequest c q e).lineOpen = s.lineOpen := rfl
@[simp] theorem State.latchRequest_rxEn (c : Cmd) (q : Word16) (e : Encoded) : (s.latchRequest c q e).rxEn = s.rxEn := rfl
@[simp] theorem State.latchRequest_rb (c : Cmd) (q : Word16) (e : Encoded) : (s.latchRequest c q e).rb = s.rb := rfl
@[simp] theorem State.latchRequest_rlen (c : Cmd) (q : Word16) (e : Encoded) : (s.latchRequest c q e).rlen = s.rlen := rfl
@[simp] theorem State.latchRequest_rovf (c : Cmd) (q : Word16) (e : Encoded) : (s.latchRequest c q e).rovf = s.rovf := rfl
@[simp] theorem State.latchRequest_resValid (c : Cmd) (q : Word16) (e : Encoded) : (s.latchRequest c q e).resValid = s.resValid := rfl
@[simp] theorem State.latchRequest_resKind (c : Cmd) (q : Word16) (e : Encoded) : (s.latchRequest c q e).resKind = s.resKind := rfl
@[simp] theorem State.latchRequest_resCmd (c : Cmd) (q : Word16) (e : Encoded) : (s.latchRequest c q e).resCmd = s.resCmd := rfl
@[simp] theorem State.latchRequest_params (c : Cmd) (q : Word16) (e : Encoded) : (s.latchRequest c q e).params = s.params := rfl
@[simp] theorem State.latchRequest_reqPort (c : Cmd) (q : Word16) (e : Encoded) : (s.latchRequest c q e).reqPort = s.reqPort := rfl
@[simp] theorem State.latchRequest_stimuli (c : Cmd) (q : Word16) (e : Encoded) : (s.latchRequest c q e).stimuli = s.stimuli := rfl
@[simp] theorem State.latchRequest_lineLog (c : Cmd) (q : Word16) (e : Encoded) : (s.latchRequest c q e).lineLog = s.lineLog := rfl

/-! ### `clearResult` -/

@[simp] theorem State.clearResult_cfgMode : s.clearResult.cfgMode = s.cfgMode := rfl
@[simp] theorem State.clearResult_cfgAddr : s.clearResult.cfgAddr = s.cfgAddr := rfl
@[simp] theorem State.clearResult_cfgAmask : s.clearResult.cfgAmask = s.cfgAmask := rfl
@[simp] theorem State.clearResult_cfgStatus : s.clearResult.cfgStatus = s.cfgStatus := rfl
@[simp] theorem State.clearResult_cfgCause : s.clearResult.cfgCause = s.cfgCause := rfl
@[simp] theorem State.clearResult_st : s.clearResult.st = s.st := rfl
@[simp] theorem State.clearResult_curCmd : s.clearResult.curCmd = s.curCmd := rfl
@[simp] theorem State.clearResult_curQ : s.clearResult.curQ = s.curQ := rfl
@[simp] theorem State.clearResult_frame : s.clearResult.frame = s.frame := rfl
@[simp] theorem State.clearResult_flen : s.clearResult.flen = s.flen := rfl
@[simp] theorem State.clearResult_txi : s.clearResult.txi = s.txi := rfl
@[simp] theorem State.clearResult_exp : s.clearResult.exp = s.exp := rfl
@[simp] theorem State.clearResult_elapsed : s.clearResult.elapsed = s.elapsed := rfl
@[simp] theorem State.clearResult_lineOpen : s.clearResult.lineOpen = s.lineOpen := rfl
@[simp] theorem State.clearResult_rxEn : s.clearResult.rxEn = s.rxEn := rfl
@[simp] theorem State.clearResult_rb : s.clearResult.rb = s.rb := rfl
@[simp] theorem State.clearResult_rlen : s.clearResult.rlen = s.rlen := rfl
@[simp] theorem State.clearResult_rovf : s.clearResult.rovf = s.rovf := rfl
@[simp] theorem State.clearResult_resValid : s.clearResult.resValid = false := rfl
@[simp] theorem State.clearResult_resKind : s.clearResult.resKind = s.resKind := rfl
@[simp] theorem State.clearResult_resCmd : s.clearResult.resCmd = s.resCmd := rfl
@[simp] theorem State.clearResult_params : s.clearResult.params = s.params := rfl
@[simp] theorem State.clearResult_reqPort : s.clearResult.reqPort = s.reqPort := rfl
@[simp] theorem State.clearResult_stimuli : s.clearResult.stimuli = s.stimuli := rfl
@[simp] theorem State.clearResult_lineLog : s.clearResult.lineLog = s.lineLog := rfl

/-! ### `holdRequest` -/

@[simp] theorem State.holdRequest_cfgMode (c : Cmd) (q : Word16) : (s.holdRequest c q).cfgMode = s.cfgMode := rfl
@[simp] theorem State.holdRequest_cfgAddr (c : Cmd) (q : Word16) : (s.holdRequest c q).cfgAddr = s.cfgAddr := rfl
@[simp] theorem State.holdRequest_cfgAmask (c : Cmd) (q : Word16) : (s.holdRequest c q).cfgAmask = s.cfgAmask := rfl
@[simp] theorem State.holdRequest_cfgStatus (c : Cmd) (q : Word16) : (s.holdRequest c q).cfgStatus = s.cfgStatus := rfl
@[simp] theorem State.holdRequest_cfgCause (c : Cmd) (q : Word16) : (s.holdRequest c q).cfgCause = s.cfgCause := rfl
@[simp] theorem State.holdRequest_st (c : Cmd) (q : Word16) : (s.holdRequest c q).st = s.st := rfl
@[simp] theorem State.holdRequest_curCmd (c : Cmd) (q : Word16) : (s.holdRequest c q).curCmd = s.curCmd := rfl
@[simp] theorem State.holdRequest_curQ (c : Cmd) (q : Word16) : (s.holdRequest c q).curQ = s.curQ := rfl
@[simp] theorem State.holdRequest_frame (c : Cmd) (q : Word16) : (s.holdRequest c q).frame = s.frame := rfl
@[simp] theorem State.holdRequest_flen (c : Cmd) (q : Word16) : (s.holdRequest c q).flen = s.flen := rfl
@[simp] theorem State.holdRequest_txi (c : Cmd) (q : Word16) : (s.holdRequest c q).txi = s.txi := rfl
@[simp] theorem State.holdRequest_exp (c : Cmd) (q : Word16) : (s.holdRequest c q).exp = s.exp := rfl
@[simp] theorem State.holdRequest_elapsed (c : Cmd) (q : Word16) : (s.holdRequest c q).elapsed = s.elapsed := rfl
@[simp] theorem State.holdRequest_lineOpen (c : Cmd) (q : Word16) : (s.holdRequest c q).lineOpen = s.lineOpen := rfl
@[simp] theorem State.holdRequest_rxEn (c : Cmd) (q : Word16) : (s.holdRequest c q).rxEn = s.rxEn := rfl
@[simp] theorem State.holdRequest_rb (c : Cmd) (q : Word16) : (s.holdRequest c q).rb = s.rb := rfl
@[simp] theorem State.holdRequest_rlen (c : Cmd) (q : Word16) : (s.holdRequest c q).rlen = s.rlen := rfl
@[simp] theorem State.holdRequest_rovf (c : Cmd) (q : Word16) : (s.holdRequest c q).rovf = s.rovf := rfl
@[simp] theorem State.holdRequest_resValid (c : Cmd) (q : Word16) : (s.holdRequest c q).resValid = s.resValid := rfl
@[simp] theorem State.holdRequest_resKind (c : Cmd) (q : Word16) : (s.holdRequest c q).resKind = s.resKind := rfl
@[simp] theorem State.holdRequest_resCmd (c : Cmd) (q : Word16) : (s.holdRequest c q).resCmd = s.resCmd := rfl
@[simp] theorem State.holdRequest_params (c : Cmd) (q : Word16) : (s.holdRequest c q).params = s.params := rfl
@[simp] theorem State.holdRequest_reqPort (c : Cmd) (q : Word16) : (s.holdRequest c q).reqPort = some { cmd := c.code, q := q } := rfl
@[simp] theorem State.holdRequest_stimuli (c : Cmd) (q : Word16) : (s.holdRequest c q).stimuli = s.stimuli := rfl
@[simp] theorem State.holdRequest_lineLog (c : Cmd) (q : Word16) : (s.holdRequest c q).lineLog = s.lineLog := rfl

/-! ### `dropMove` -/

@[simp] theorem State.dropMove_cfgMode : s.dropMove.cfgMode = s.cfgMode := rfl
@[simp] theorem State.dropMove_cfgAddr : s.dropMove.cfgAddr = s.cfgAddr := rfl
@[simp] theorem State.dropMove_cfgAmask : s.dropMove.cfgAmask = s.cfgAmask := rfl
@[simp] theorem State.dropMove_cfgStatus : s.dropMove.cfgStatus = s.cfgStatus := rfl
@[simp] theorem State.dropMove_cfgCause : s.dropMove.cfgCause = s.cfgCause := rfl
@[simp] theorem State.dropMove_st : s.dropMove.st = s.st := rfl
@[simp] theorem State.dropMove_curCmd : s.dropMove.curCmd = s.curCmd := rfl
@[simp] theorem State.dropMove_curQ : s.dropMove.curQ = s.curQ := rfl
@[simp] theorem State.dropMove_frame : s.dropMove.frame = s.frame := rfl
@[simp] theorem State.dropMove_flen : s.dropMove.flen = s.flen := rfl
@[simp] theorem State.dropMove_txi : s.dropMove.txi = s.txi := rfl
@[simp] theorem State.dropMove_exp : s.dropMove.exp = s.exp := rfl
@[simp] theorem State.dropMove_elapsed : s.dropMove.elapsed = s.elapsed := rfl
@[simp] theorem State.dropMove_lineOpen : s.dropMove.lineOpen = s.lineOpen := rfl
@[simp] theorem State.dropMove_rxEn : s.dropMove.rxEn = s.rxEn := rfl
@[simp] theorem State.dropMove_rb : s.dropMove.rb = s.rb := rfl
@[simp] theorem State.dropMove_rlen : s.dropMove.rlen = s.rlen := rfl
@[simp] theorem State.dropMove_rovf : s.dropMove.rovf = s.rovf := rfl
@[simp] theorem State.dropMove_resValid : s.dropMove.resValid = s.resValid := rfl
@[simp] theorem State.dropMove_resKind : s.dropMove.resKind = s.resKind := rfl
@[simp] theorem State.dropMove_resCmd : s.dropMove.resCmd = s.resCmd := rfl
@[simp] theorem State.dropMove_params : s.dropMove.params = s.params := rfl
@[simp] theorem State.dropMove_reqPort : s.dropMove.reqPort = s.reqPort := rfl
@[simp] theorem State.dropMove_stimuli : s.dropMove.stimuli = s.stimuli.tail := rfl
@[simp] theorem State.dropMove_lineLog : s.dropMove.lineLog = s.lineLog := rfl

/-! ### `takeRequest` -/

@[simp] theorem State.takeRequest_cfgMode : s.takeRequest.cfgMode = s.cfgMode := rfl
@[simp] theorem State.takeRequest_cfgAddr : s.takeRequest.cfgAddr = s.cfgAddr := rfl
@[simp] theorem State.takeRequest_cfgAmask : s.takeRequest.cfgAmask = s.cfgAmask := rfl
@[simp] theorem State.takeRequest_cfgStatus : s.takeRequest.cfgStatus = s.cfgStatus := rfl
@[simp] theorem State.takeRequest_cfgCause : s.takeRequest.cfgCause = s.cfgCause := rfl
@[simp] theorem State.takeRequest_st : s.takeRequest.st = s.st := rfl
@[simp] theorem State.takeRequest_curCmd : s.takeRequest.curCmd = s.curCmd := rfl
@[simp] theorem State.takeRequest_curQ : s.takeRequest.curQ = s.curQ := rfl
@[simp] theorem State.takeRequest_frame : s.takeRequest.frame = s.frame := rfl
@[simp] theorem State.takeRequest_flen : s.takeRequest.flen = s.flen := rfl
@[simp] theorem State.takeRequest_txi : s.takeRequest.txi = s.txi := rfl
@[simp] theorem State.takeRequest_exp : s.takeRequest.exp = s.exp := rfl
@[simp] theorem State.takeRequest_elapsed : s.takeRequest.elapsed = s.elapsed := rfl
@[simp] theorem State.takeRequest_lineOpen : s.takeRequest.lineOpen = s.lineOpen := rfl
@[simp] theorem State.takeRequest_rxEn : s.takeRequest.rxEn = s.rxEn := rfl
@[simp] theorem State.takeRequest_rb : s.takeRequest.rb = s.rb := rfl
@[simp] theorem State.takeRequest_rlen : s.takeRequest.rlen = s.rlen := rfl
@[simp] theorem State.takeRequest_rovf : s.takeRequest.rovf = s.rovf := rfl
@[simp] theorem State.takeRequest_resValid : s.takeRequest.resValid = s.resValid := rfl
@[simp] theorem State.takeRequest_resKind : s.takeRequest.resKind = s.resKind := rfl
@[simp] theorem State.takeRequest_resCmd : s.takeRequest.resCmd = s.resCmd := rfl
@[simp] theorem State.takeRequest_params : s.takeRequest.params = s.params := rfl
@[simp] theorem State.takeRequest_reqPort : s.takeRequest.reqPort = none := rfl
@[simp] theorem State.takeRequest_stimuli : s.takeRequest.stimuli = s.stimuli := rfl
@[simp] theorem State.takeRequest_lineLog : s.takeRequest.lineLog = s.lineLog := rfl

/-! ### `presentRequest` -/

@[simp] theorem State.presentRequest_cfgMode (r : Request) : (s.presentRequest r).cfgMode = s.cfgMode := rfl
@[simp] theorem State.presentRequest_cfgAddr (r : Request) : (s.presentRequest r).cfgAddr = s.cfgAddr := rfl
@[simp] theorem State.presentRequest_cfgAmask (r : Request) : (s.presentRequest r).cfgAmask = s.cfgAmask := rfl
@[simp] theorem State.presentRequest_cfgStatus (r : Request) : (s.presentRequest r).cfgStatus = s.cfgStatus := rfl
@[simp] theorem State.presentRequest_cfgCause (r : Request) : (s.presentRequest r).cfgCause = s.cfgCause := rfl
@[simp] theorem State.presentRequest_st (r : Request) : (s.presentRequest r).st = s.st := rfl
@[simp] theorem State.presentRequest_curCmd (r : Request) : (s.presentRequest r).curCmd = s.curCmd := rfl
@[simp] theorem State.presentRequest_curQ (r : Request) : (s.presentRequest r).curQ = s.curQ := rfl
@[simp] theorem State.presentRequest_frame (r : Request) : (s.presentRequest r).frame = s.frame := rfl
@[simp] theorem State.presentRequest_flen (r : Request) : (s.presentRequest r).flen = s.flen := rfl
@[simp] theorem State.presentRequest_txi (r : Request) : (s.presentRequest r).txi = s.txi := rfl
@[simp] theorem State.presentRequest_exp (r : Request) : (s.presentRequest r).exp = s.exp := rfl
@[simp] theorem State.presentRequest_elapsed (r : Request) : (s.presentRequest r).elapsed = s.elapsed := rfl
@[simp] theorem State.presentRequest_lineOpen (r : Request) : (s.presentRequest r).lineOpen = s.lineOpen := rfl
@[simp] theorem State.presentRequest_rxEn (r : Request) : (s.presentRequest r).rxEn = s.rxEn := rfl
@[simp] theorem State.presentRequest_rb (r : Request) : (s.presentRequest r).rb = s.rb := rfl
@[simp] theorem State.presentRequest_rlen (r : Request) : (s.presentRequest r).rlen = s.rlen := rfl
@[simp] theorem State.presentRequest_rovf (r : Request) : (s.presentRequest r).rovf = s.rovf := rfl
@[simp] theorem State.presentRequest_resValid (r : Request) : (s.presentRequest r).resValid = s.resValid := rfl
@[simp] theorem State.presentRequest_resKind (r : Request) : (s.presentRequest r).resKind = s.resKind := rfl
@[simp] theorem State.presentRequest_resCmd (r : Request) : (s.presentRequest r).resCmd = s.resCmd := rfl
@[simp] theorem State.presentRequest_params (r : Request) : (s.presentRequest r).params = s.params := rfl
@[simp] theorem State.presentRequest_reqPort (r : Request) : (s.presentRequest r).reqPort = some r := rfl
@[simp] theorem State.presentRequest_stimuli (r : Request) : (s.presentRequest r).stimuli = s.stimuli := rfl
@[simp] theorem State.presentRequest_lineLog (r : Request) : (s.presentRequest r).lineLog = s.lineLog := rfl

/-! ### `setConfig` -/

@[simp] theorem State.setConfig_cfgMode (m : CfgMode) (a : BitVec 3) (k : BitVec 4) : (s.setConfig m a k).cfgMode = m := rfl
@[simp] theorem State.setConfig_cfgAddr (m : CfgMode) (a : BitVec 3) (k : BitVec 4) : (s.setConfig m a k).cfgAddr = (match m with | .single => a | .line => s.cfgAddr) := rfl
@[simp] theorem State.setConfig_cfgAmask (m : CfgMode) (a : BitVec 3) (k : BitVec 4) : (s.setConfig m a k).cfgAmask = (match m with | .single => s.cfgAmask | .line => k) := rfl
@[simp] theorem State.setConfig_cfgStatus (m : CfgMode) (a : BitVec 3) (k : BitVec 4) : (s.setConfig m a k).cfgStatus = .ready := rfl
@[simp] theorem State.setConfig_cfgCause (m : CfgMode) (a : BitVec 3) (k : BitVec 4) : (s.setConfig m a k).cfgCause = s.cfgCause := rfl
@[simp] theorem State.setConfig_st (m : CfgMode) (a : BitVec 3) (k : BitVec 4) : (s.setConfig m a k).st = s.st := rfl
@[simp] theorem State.setConfig_curCmd (m : CfgMode) (a : BitVec 3) (k : BitVec 4) : (s.setConfig m a k).curCmd = s.curCmd := rfl
@[simp] theorem State.setConfig_curQ (m : CfgMode) (a : BitVec 3) (k : BitVec 4) : (s.setConfig m a k).curQ = s.curQ := rfl
@[simp] theorem State.setConfig_frame (m : CfgMode) (a : BitVec 3) (k : BitVec 4) : (s.setConfig m a k).frame = s.frame := rfl
@[simp] theorem State.setConfig_flen (m : CfgMode) (a : BitVec 3) (k : BitVec 4) : (s.setConfig m a k).flen = s.flen := rfl
@[simp] theorem State.setConfig_txi (m : CfgMode) (a : BitVec 3) (k : BitVec 4) : (s.setConfig m a k).txi = s.txi := rfl
@[simp] theorem State.setConfig_exp (m : CfgMode) (a : BitVec 3) (k : BitVec 4) : (s.setConfig m a k).exp = s.exp := rfl
@[simp] theorem State.setConfig_elapsed (m : CfgMode) (a : BitVec 3) (k : BitVec 4) : (s.setConfig m a k).elapsed = s.elapsed := rfl
@[simp] theorem State.setConfig_lineOpen (m : CfgMode) (a : BitVec 3) (k : BitVec 4) : (s.setConfig m a k).lineOpen = s.lineOpen := rfl
@[simp] theorem State.setConfig_rxEn (m : CfgMode) (a : BitVec 3) (k : BitVec 4) : (s.setConfig m a k).rxEn = s.rxEn := rfl
@[simp] theorem State.setConfig_rb (m : CfgMode) (a : BitVec 3) (k : BitVec 4) : (s.setConfig m a k).rb = s.rb := rfl
@[simp] theorem State.setConfig_rlen (m : CfgMode) (a : BitVec 3) (k : BitVec 4) : (s.setConfig m a k).rlen = s.rlen := rfl
@[simp] theorem State.setConfig_rovf (m : CfgMode) (a : BitVec 3) (k : BitVec 4) : (s.setConfig m a k).rovf = s.rovf := rfl
@[simp] theorem State.setConfig_resValid (m : CfgMode) (a : BitVec 3) (k : BitVec 4) : (s.setConfig m a k).resValid = s.resValid := rfl
@[simp] theorem State.setConfig_resKind (m : CfgMode) (a : BitVec 3) (k : BitVec 4) : (s.setConfig m a k).resKind = s.resKind := rfl
@[simp] theorem State.setConfig_resCmd (m : CfgMode) (a : BitVec 3) (k : BitVec 4) : (s.setConfig m a k).resCmd = s.resCmd := rfl
@[simp] theorem State.setConfig_params (m : CfgMode) (a : BitVec 3) (k : BitVec 4) : (s.setConfig m a k).params = s.params := rfl
@[simp] theorem State.setConfig_reqPort (m : CfgMode) (a : BitVec 3) (k : BitVec 4) : (s.setConfig m a k).reqPort = s.reqPort := rfl
@[simp] theorem State.setConfig_stimuli (m : CfgMode) (a : BitVec 3) (k : BitVec 4) : (s.setConfig m a k).stimuli = s.stimuli := rfl
@[simp] theorem State.setConfig_lineLog (m : CfgMode) (a : BitVec 3) (k : BitVec 4) : (s.setConfig m a k).lineLog = s.lineLog := rfl

/-! ### `armWindow` -/

@[simp] theorem State.armWindow_cfgMode : s.armWindow.cfgMode = s.cfgMode := rfl
@[simp] theorem State.armWindow_cfgAddr : s.armWindow.cfgAddr = s.cfgAddr := rfl
@[simp] theorem State.armWindow_cfgAmask : s.armWindow.cfgAmask = s.cfgAmask := rfl
@[simp] theorem State.armWindow_cfgStatus : s.armWindow.cfgStatus = s.cfgStatus := rfl
@[simp] theorem State.armWindow_cfgCause : s.armWindow.cfgCause = s.cfgCause := rfl
@[simp] theorem State.armWindow_st : s.armWindow.st = s.st := rfl
@[simp] theorem State.armWindow_curCmd : s.armWindow.curCmd = s.curCmd := rfl
@[simp] theorem State.armWindow_curQ : s.armWindow.curQ = s.curQ := rfl
@[simp] theorem State.armWindow_frame : s.armWindow.frame = s.frame := rfl
@[simp] theorem State.armWindow_flen : s.armWindow.flen = s.flen := rfl
@[simp] theorem State.armWindow_txi : s.armWindow.txi = 0 := rfl
@[simp] theorem State.armWindow_exp : s.armWindow.exp = s.exp := rfl
@[simp] theorem State.armWindow_elapsed : s.armWindow.elapsed = s.elapsed := rfl
@[simp] theorem State.armWindow_lineOpen : s.armWindow.lineOpen = s.lineOpen := rfl
@[simp] theorem State.armWindow_rxEn : s.armWindow.rxEn = true := rfl
@[simp] theorem State.armWindow_rb : s.armWindow.rb = s.rb := rfl
@[simp] theorem State.armWindow_rlen : s.armWindow.rlen = s.rlen := rfl
@[simp] theorem State.armWindow_rovf : s.armWindow.rovf = s.rovf := rfl
@[simp] theorem State.armWindow_resValid : s.armWindow.resValid = s.resValid := rfl
@[simp] theorem State.armWindow_resKind : s.armWindow.resKind = s.resKind := rfl
@[simp] theorem State.armWindow_resCmd : s.armWindow.resCmd = s.resCmd := rfl
@[simp] theorem State.armWindow_params : s.armWindow.params = s.params := rfl
@[simp] theorem State.armWindow_reqPort : s.armWindow.reqPort = s.reqPort := rfl
@[simp] theorem State.armWindow_stimuli : s.armWindow.stimuli = s.stimuli := rfl
@[simp] theorem State.armWindow_lineLog : s.armWindow.lineLog = s.lineLog := rfl

/-! ### `nextTx` -/

@[simp] theorem State.nextTx_cfgMode : s.nextTx.cfgMode = s.cfgMode := rfl
@[simp] theorem State.nextTx_cfgAddr : s.nextTx.cfgAddr = s.cfgAddr := rfl
@[simp] theorem State.nextTx_cfgAmask : s.nextTx.cfgAmask = s.cfgAmask := rfl
@[simp] theorem State.nextTx_cfgStatus : s.nextTx.cfgStatus = s.cfgStatus := rfl
@[simp] theorem State.nextTx_cfgCause : s.nextTx.cfgCause = s.cfgCause := rfl
@[simp] theorem State.nextTx_st : s.nextTx.st = s.st := rfl
@[simp] theorem State.nextTx_curCmd : s.nextTx.curCmd = s.curCmd := rfl
@[simp] theorem State.nextTx_curQ : s.nextTx.curQ = s.curQ := rfl
@[simp] theorem State.nextTx_frame : s.nextTx.frame = s.frame := rfl
@[simp] theorem State.nextTx_flen : s.nextTx.flen = s.flen := rfl
@[simp] theorem State.nextTx_txi : s.nextTx.txi = s.txi + 1 := rfl
@[simp] theorem State.nextTx_exp : s.nextTx.exp = s.exp := rfl
@[simp] theorem State.nextTx_elapsed : s.nextTx.elapsed = s.elapsed := rfl
@[simp] theorem State.nextTx_lineOpen : s.nextTx.lineOpen = s.lineOpen := rfl
@[simp] theorem State.nextTx_rxEn : s.nextTx.rxEn = s.rxEn := rfl
@[simp] theorem State.nextTx_rb : s.nextTx.rb = s.rb := rfl
@[simp] theorem State.nextTx_rlen : s.nextTx.rlen = s.rlen := rfl
@[simp] theorem State.nextTx_rovf : s.nextTx.rovf = s.rovf := rfl
@[simp] theorem State.nextTx_resValid : s.nextTx.resValid = s.resValid := rfl
@[simp] theorem State.nextTx_resKind : s.nextTx.resKind = s.resKind := rfl
@[simp] theorem State.nextTx_resCmd : s.nextTx.resCmd = s.resCmd := rfl
@[simp] theorem State.nextTx_params : s.nextTx.params = s.params := rfl
@[simp] theorem State.nextTx_reqPort : s.nextTx.reqPort = s.reqPort := rfl
@[simp] theorem State.nextTx_stimuli : s.nextTx.stimuli = s.stimuli := rfl
@[simp] theorem State.nextTx_lineLog : s.nextTx.lineLog = s.lineLog := rfl

/-! ### `startTimer` -/

@[simp] theorem State.startTimer_cfgMode : s.startTimer.cfgMode = s.cfgMode := rfl
@[simp] theorem State.startTimer_cfgAddr : s.startTimer.cfgAddr = s.cfgAddr := rfl
@[simp] theorem State.startTimer_cfgAmask : s.startTimer.cfgAmask = s.cfgAmask := rfl
@[simp] theorem State.startTimer_cfgStatus : s.startTimer.cfgStatus = s.cfgStatus := rfl
@[simp] theorem State.startTimer_cfgCause : s.startTimer.cfgCause = s.cfgCause := rfl
@[simp] theorem State.startTimer_st : s.startTimer.st = s.st := rfl
@[simp] theorem State.startTimer_curCmd : s.startTimer.curCmd = s.curCmd := rfl
@[simp] theorem State.startTimer_curQ : s.startTimer.curQ = s.curQ := rfl
@[simp] theorem State.startTimer_frame : s.startTimer.frame = s.frame := rfl
@[simp] theorem State.startTimer_flen : s.startTimer.flen = s.flen := rfl
@[simp] theorem State.startTimer_txi : s.startTimer.txi = s.txi := rfl
@[simp] theorem State.startTimer_exp : s.startTimer.exp = s.exp := rfl
@[simp] theorem State.startTimer_elapsed : s.startTimer.elapsed = 0 := rfl
@[simp] theorem State.startTimer_lineOpen : s.startTimer.lineOpen = s.lineOpen := rfl
@[simp] theorem State.startTimer_rxEn : s.startTimer.rxEn = s.rxEn := rfl
@[simp] theorem State.startTimer_rb : s.startTimer.rb = s.rb := rfl
@[simp] theorem State.startTimer_rlen : s.startTimer.rlen = s.rlen := rfl
@[simp] theorem State.startTimer_rovf : s.startTimer.rovf = s.rovf := rfl
@[simp] theorem State.startTimer_resValid : s.startTimer.resValid = s.resValid := rfl
@[simp] theorem State.startTimer_resKind : s.startTimer.resKind = s.resKind := rfl
@[simp] theorem State.startTimer_resCmd : s.startTimer.resCmd = s.resCmd := rfl
@[simp] theorem State.startTimer_params : s.startTimer.params = s.params := rfl
@[simp] theorem State.startTimer_reqPort : s.startTimer.reqPort = s.reqPort := rfl
@[simp] theorem State.startTimer_stimuli : s.startTimer.stimuli = s.stimuli := rfl
@[simp] theorem State.startTimer_lineLog : s.startTimer.lineLog = s.lineLog := rfl

/-! ### `addPoll` -/

@[simp] theorem State.addPoll_cfgMode : s.addPoll.cfgMode = s.cfgMode := rfl
@[simp] theorem State.addPoll_cfgAddr : s.addPoll.cfgAddr = s.cfgAddr := rfl
@[simp] theorem State.addPoll_cfgAmask : s.addPoll.cfgAmask = s.cfgAmask := rfl
@[simp] theorem State.addPoll_cfgStatus : s.addPoll.cfgStatus = s.cfgStatus := rfl
@[simp] theorem State.addPoll_cfgCause : s.addPoll.cfgCause = s.cfgCause := rfl
@[simp] theorem State.addPoll_st : s.addPoll.st = s.st := rfl
@[simp] theorem State.addPoll_curCmd : s.addPoll.curCmd = s.curCmd := rfl
@[simp] theorem State.addPoll_curQ : s.addPoll.curQ = s.curQ := rfl
@[simp] theorem State.addPoll_frame : s.addPoll.frame = s.frame := rfl
@[simp] theorem State.addPoll_flen : s.addPoll.flen = s.flen := rfl
@[simp] theorem State.addPoll_txi : s.addPoll.txi = s.txi := rfl
@[simp] theorem State.addPoll_exp : s.addPoll.exp = s.exp := rfl
@[simp] theorem State.addPoll_elapsed : s.addPoll.elapsed = s.elapsed + s.params.pollMs := rfl
@[simp] theorem State.addPoll_lineOpen : s.addPoll.lineOpen = s.lineOpen := rfl
@[simp] theorem State.addPoll_rxEn : s.addPoll.rxEn = s.rxEn := rfl
@[simp] theorem State.addPoll_rb : s.addPoll.rb = s.rb := rfl
@[simp] theorem State.addPoll_rlen : s.addPoll.rlen = s.rlen := rfl
@[simp] theorem State.addPoll_rovf : s.addPoll.rovf = s.rovf := rfl
@[simp] theorem State.addPoll_resValid : s.addPoll.resValid = s.resValid := rfl
@[simp] theorem State.addPoll_resKind : s.addPoll.resKind = s.resKind := rfl
@[simp] theorem State.addPoll_resCmd : s.addPoll.resCmd = s.resCmd := rfl
@[simp] theorem State.addPoll_params : s.addPoll.params = s.params := rfl
@[simp] theorem State.addPoll_reqPort : s.addPoll.reqPort = s.reqPort := rfl
@[simp] theorem State.addPoll_stimuli : s.addPoll.stimuli = s.stimuli := rfl
@[simp] theorem State.addPoll_lineLog : s.addPoll.lineLog = s.lineLog := rfl

/-! ### `stopRx` -/

@[simp] theorem State.stopRx_cfgMode : s.stopRx.cfgMode = s.cfgMode := rfl
@[simp] theorem State.stopRx_cfgAddr : s.stopRx.cfgAddr = s.cfgAddr := rfl
@[simp] theorem State.stopRx_cfgAmask : s.stopRx.cfgAmask = s.cfgAmask := rfl
@[simp] theorem State.stopRx_cfgStatus : s.stopRx.cfgStatus = s.cfgStatus := rfl
@[simp] theorem State.stopRx_cfgCause : s.stopRx.cfgCause = s.cfgCause := rfl
@[simp] theorem State.stopRx_st : s.stopRx.st = s.st := rfl
@[simp] theorem State.stopRx_curCmd : s.stopRx.curCmd = s.curCmd := rfl
@[simp] theorem State.stopRx_curQ : s.stopRx.curQ = s.curQ := rfl
@[simp] theorem State.stopRx_frame : s.stopRx.frame = s.frame := rfl
@[simp] theorem State.stopRx_flen : s.stopRx.flen = s.flen := rfl
@[simp] theorem State.stopRx_txi : s.stopRx.txi = s.txi := rfl
@[simp] theorem State.stopRx_exp : s.stopRx.exp = s.exp := rfl
@[simp] theorem State.stopRx_elapsed : s.stopRx.elapsed = s.elapsed := rfl
@[simp] theorem State.stopRx_lineOpen : s.stopRx.lineOpen = s.lineOpen := rfl
@[simp] theorem State.stopRx_rxEn : s.stopRx.rxEn = false := rfl
@[simp] theorem State.stopRx_rb : s.stopRx.rb = s.rb := rfl
@[simp] theorem State.stopRx_rlen : s.stopRx.rlen = s.rlen := rfl
@[simp] theorem State.stopRx_rovf : s.stopRx.rovf = s.rovf := rfl
@[simp] theorem State.stopRx_resValid : s.stopRx.resValid = s.resValid := rfl
@[simp] theorem State.stopRx_resKind : s.stopRx.resKind = s.resKind := rfl
@[simp] theorem State.stopRx_resCmd : s.stopRx.resCmd = s.resCmd := rfl
@[simp] theorem State.stopRx_params : s.stopRx.params = s.params := rfl
@[simp] theorem State.stopRx_reqPort : s.stopRx.reqPort = s.reqPort := rfl
@[simp] theorem State.stopRx_stimuli : s.stopRx.stimuli = s.stimuli := rfl
@[simp] theorem State.stopRx_lineLog : s.stopRx.lineLog = s.lineLog := rfl

/-! ### `storeByte` -/

@[simp] theorem State.storeByte_cfgMode (i : Fin 8) (b : Byte) : (s.storeByte i b).cfgMode = s.cfgMode := rfl
@[simp] theorem State.storeByte_cfgAddr (i : Fin 8) (b : Byte) : (s.storeByte i b).cfgAddr = s.cfgAddr := rfl
@[simp] theorem State.storeByte_cfgAmask (i : Fin 8) (b : Byte) : (s.storeByte i b).cfgAmask = s.cfgAmask := rfl
@[simp] theorem State.storeByte_cfgStatus (i : Fin 8) (b : Byte) : (s.storeByte i b).cfgStatus = s.cfgStatus := rfl
@[simp] theorem State.storeByte_cfgCause (i : Fin 8) (b : Byte) : (s.storeByte i b).cfgCause = s.cfgCause := rfl
@[simp] theorem State.storeByte_st (i : Fin 8) (b : Byte) : (s.storeByte i b).st = s.st := rfl
@[simp] theorem State.storeByte_curCmd (i : Fin 8) (b : Byte) : (s.storeByte i b).curCmd = s.curCmd := rfl
@[simp] theorem State.storeByte_curQ (i : Fin 8) (b : Byte) : (s.storeByte i b).curQ = s.curQ := rfl
@[simp] theorem State.storeByte_frame (i : Fin 8) (b : Byte) : (s.storeByte i b).frame = s.frame := rfl
@[simp] theorem State.storeByte_flen (i : Fin 8) (b : Byte) : (s.storeByte i b).flen = s.flen := rfl
@[simp] theorem State.storeByte_txi (i : Fin 8) (b : Byte) : (s.storeByte i b).txi = s.txi := rfl
@[simp] theorem State.storeByte_exp (i : Fin 8) (b : Byte) : (s.storeByte i b).exp = s.exp := rfl
@[simp] theorem State.storeByte_elapsed (i : Fin 8) (b : Byte) : (s.storeByte i b).elapsed = s.elapsed := rfl
@[simp] theorem State.storeByte_lineOpen (i : Fin 8) (b : Byte) : (s.storeByte i b).lineOpen = s.lineOpen := rfl
@[simp] theorem State.storeByte_rxEn (i : Fin 8) (b : Byte) : (s.storeByte i b).rxEn = s.rxEn := rfl
@[simp] theorem State.storeByte_rb (i : Fin 8) (b : Byte) : (s.storeByte i b).rb = s.rb.write i b := rfl
@[simp] theorem State.storeByte_rlen (i : Fin 8) (b : Byte) : (s.storeByte i b).rlen = s.rlen + 1 := rfl
@[simp] theorem State.storeByte_rovf (i : Fin 8) (b : Byte) : (s.storeByte i b).rovf = s.rovf := rfl
@[simp] theorem State.storeByte_resValid (i : Fin 8) (b : Byte) : (s.storeByte i b).resValid = s.resValid := rfl
@[simp] theorem State.storeByte_resKind (i : Fin 8) (b : Byte) : (s.storeByte i b).resKind = s.resKind := rfl
@[simp] theorem State.storeByte_resCmd (i : Fin 8) (b : Byte) : (s.storeByte i b).resCmd = s.resCmd := rfl
@[simp] theorem State.storeByte_params (i : Fin 8) (b : Byte) : (s.storeByte i b).params = s.params := rfl
@[simp] theorem State.storeByte_reqPort (i : Fin 8) (b : Byte) : (s.storeByte i b).reqPort = s.reqPort := rfl
@[simp] theorem State.storeByte_stimuli (i : Fin 8) (b : Byte) : (s.storeByte i b).stimuli = s.stimuli := rfl
@[simp] theorem State.storeByte_lineLog (i : Fin 8) (b : Byte) : (s.storeByte i b).lineLog = s.lineLog := rfl

/-! ### `setOverflow` -/

@[simp] theorem State.setOverflow_cfgMode : s.setOverflow.cfgMode = s.cfgMode := rfl
@[simp] theorem State.setOverflow_cfgAddr : s.setOverflow.cfgAddr = s.cfgAddr := rfl
@[simp] theorem State.setOverflow_cfgAmask : s.setOverflow.cfgAmask = s.cfgAmask := rfl
@[simp] theorem State.setOverflow_cfgStatus : s.setOverflow.cfgStatus = s.cfgStatus := rfl
@[simp] theorem State.setOverflow_cfgCause : s.setOverflow.cfgCause = s.cfgCause := rfl
@[simp] theorem State.setOverflow_st : s.setOverflow.st = s.st := rfl
@[simp] theorem State.setOverflow_curCmd : s.setOverflow.curCmd = s.curCmd := rfl
@[simp] theorem State.setOverflow_curQ : s.setOverflow.curQ = s.curQ := rfl
@[simp] theorem State.setOverflow_frame : s.setOverflow.frame = s.frame := rfl
@[simp] theorem State.setOverflow_flen : s.setOverflow.flen = s.flen := rfl
@[simp] theorem State.setOverflow_txi : s.setOverflow.txi = s.txi := rfl
@[simp] theorem State.setOverflow_exp : s.setOverflow.exp = s.exp := rfl
@[simp] theorem State.setOverflow_elapsed : s.setOverflow.elapsed = s.elapsed := rfl
@[simp] theorem State.setOverflow_lineOpen : s.setOverflow.lineOpen = s.lineOpen := rfl
@[simp] theorem State.setOverflow_rxEn : s.setOverflow.rxEn = s.rxEn := rfl
@[simp] theorem State.setOverflow_rb : s.setOverflow.rb = s.rb := rfl
@[simp] theorem State.setOverflow_rlen : s.setOverflow.rlen = s.rlen := rfl
@[simp] theorem State.setOverflow_rovf : s.setOverflow.rovf = true := rfl
@[simp] theorem State.setOverflow_resValid : s.setOverflow.resValid = s.resValid := rfl
@[simp] theorem State.setOverflow_resKind : s.setOverflow.resKind = s.resKind := rfl
@[simp] theorem State.setOverflow_resCmd : s.setOverflow.resCmd = s.resCmd := rfl
@[simp] theorem State.setOverflow_params : s.setOverflow.params = s.params := rfl
@[simp] theorem State.setOverflow_reqPort : s.setOverflow.reqPort = s.reqPort := rfl
@[simp] theorem State.setOverflow_stimuli : s.setOverflow.stimuli = s.stimuli := rfl
@[simp] theorem State.setOverflow_lineLog : s.setOverflow.lineLog = s.lineLog := rfl

end Sys2Proof.Machine
end

