-- ==== Sys2Proof/Laws/Ops.lean ====
section
/-! SUPPORT. The laws of the shared operations: the response buffer's bytes, the frame registers, the checksum, the codes, the rounding. -/

namespace Sys2Proof.Machine

/-! ### The response buffer (R13, R50) -/

/-- A canonical list from `lo` on reads as unlisted below `lo`. -/
theorem cellByte_below (l : List Host.Cell) (lo a : Nat) (h : cellsWf lo l = true) (ha : a < lo) :
    cellByte l a = Memory.unlisted := by
  induction l generalizing lo with
  | nil => rfl
  | cons c r ih =>
    obtain ⟨k, v⟩ := c
    simp only [cellsWf, Bool.and_eq_true, decide_eq_true_eq] at h
    have hk : k ≠ a := by omega
    simp only [cellByte, hk, if_false]
    exact ih (k + 1) h.2 (by omega)

/-- A canonical list is canonical from any lower address on. -/
theorem cellsWf_mono (l : List Host.Cell) (lo lo' : Nat) (h : cellsWf lo l = true) (hle : lo' ≤ lo) : cellsWf lo' l = true := by
  cases l with
  | nil => rfl
  | cons c r =>
    simp only [cellsWf, Bool.and_eq_true, decide_eq_true_eq] at h ⊢
    exact ⟨⟨⟨by omega, h.1.1.2⟩, h.1.2⟩, h.2⟩

/-- A store keeps the canonical form. -/
theorem cellStore_wf (l : List Host.Cell) (lo a : Nat) (b : Byte) (h : cellsWf lo l = true) (hlo : lo ≤ a) (ha : a < Config.rbCap) :
    cellsWf lo (cellStore l a b) = true := by
  induction l generalizing lo with
  | nil =>
    simp only [cellStore]
    split
    · rfl
    · simp [cellsWf, *]
  | cons c r ih =>
    obtain ⟨k, v⟩ := c
    have h0 := h
    simp only [cellsWf, Bool.and_eq_true, decide_eq_true_eq] at h
    obtain ⟨⟨⟨h1, h2⟩, h3⟩, h4⟩ := h
    simp only [cellStore]
    split_ifs with hak hb hak' hb
    · exact h0
    · have hk : a + 1 ≤ k := hak
      simp [cellsWf, hlo, ha, hb, hk, h2, h3, h4]
    · exact cellsWf_mono r (k + 1) lo h4 (by omega)
    · subst hak'
      simp [cellsWf, hlo, ha, hb, h4]
    · have := ih (k + 1) h4 (by omega)
      simp [cellsWf, h1, h2, h3, this]

/-- A byte read after a store: the stored byte at its address, every other byte as before. -/
theorem cellByte_cellStore (l : List Host.Cell) (lo a x : Nat) (b : Byte) (h : cellsWf lo l = true) :
    cellByte (cellStore l a b) x = if x = a then b else cellByte l x := by
  induction l generalizing lo with
  | nil =>
    simp only [cellStore, cellByte]
    by_cases hx : x = a
    · subst hx
      rw [if_pos rfl]
      split_ifs with hb <;> simp [cellByte, hb]
    · have hax : a ≠ x := fun e => hx e.symm
      split_ifs <;> simp [cellByte, hax]
  | cons c r ih =>
    obtain ⟨k, v⟩ := c
    simp only [cellsWf, Bool.and_eq_true, decide_eq_true_eq] at h
    obtain ⟨⟨⟨h1, h2⟩, h3⟩, h4⟩ := h
    by_cases hx : x = a
    · subst hx
      rw [if_pos rfl]
      simp only [cellStore]
      split_ifs with hak hb hak' hb
      · have hk : k ≠ x := by omega
        simp only [cellByte, hk, if_false, hb]
        exact cellByte_below r (k + 1) x h4 (by omega)
      · simp [cellByte]
      · rw [cellByte_below r (k + 1) x h4 (by omega), hb]
      · simp [cellByte]
      · have hk : k ≠ x := fun e => hak' e.symm
        simp only [cellByte, hk, if_false]
        rw [ih (k + 1) h4, if_pos rfl]
    · rw [if_neg hx]
      have hax : a ≠ x := fun e => hx e.symm
      simp only [cellStore]
      split_ifs with hak hb hak' hb
      · rfl
      · simp [cellByte, hax]
      · have hk : k ≠ x := by omega
        simp [cellByte, hk]
      · have hk : k ≠ x := by omega
        simp [cellByte, hk, hax]
      · by_cases hk : k = x
        · simp [cellByte, hk]
        · simp only [cellByte, hk, if_false]
          rw [ih (k + 1) h4, if_neg hx]

/-- A write keeps the memory canonical. -/
theorem Memory.write_wf (m : Memory) (i : Fin 8) (b : Byte) (h : m.wf = true) : (m.write i b).wf = true :=
  cellStore_wf m.cells 0 i.val b h (Nat.zero_le _) i.isLt

/-- A byte read after a write: the byte written at its index, every other index as before. -/
theorem Memory.read_write (m : Memory) (i : Fin 8) (b : Byte) (h : m.wf = true) (a : Nat) :
    (m.write i b).read a = if a = i.val then some b else m.read a := by
  unfold Memory.read Memory.write
  simp only [cellByte_cellStore m.cells 0 i.val a b h]
  have := i.isLt
  split_ifs <;> simp_all [Config.rbCap]

/-- The memory right after reset is canonical. -/
theorem Memory.reset_wf : State.reset.rb.wf = true := rfl

/-! ### The frame registers (R28, R100) -/

@[simp] theorem FrameRegs.load_two (f : FrameRegs) (x y : Byte) : f.load [x, y] = ⟨x, y, f.f2, f.f3, f.f4⟩ := rfl
@[simp] theorem FrameRegs.load_four (f : FrameRegs) (x y z w : Byte) : f.load [x, y, z, w] = ⟨x, y, z, w, f.f4⟩ := rfl
@[simp] theorem FrameRegs.load_five (f : FrameRegs) (x y z w v : Byte) : f.load [x, y, z, w, v] = ⟨x, y, z, w, v⟩ := rfl

/-- `FRAME` has a byte at an index exactly below 5. -/
theorem FrameRegs.get_isSome (f : FrameRegs) (i : Nat) : (f.get i).isSome = decide (i < 5) := by
  match i with
  | 0 | 1 | 2 | 3 | 4 => rfl
  | n + 5 => simp [FrameRegs.get]

/-! ### The checksum (R140) -/

@[simp] theorem checksum_nil : checksum [] = 0 := rfl

/-- The fold started from any byte. -/
theorem checksum_foldl (x : Byte) (l : List Byte) : l.foldl (· ^^^ ·) x = x ^^^ checksum l := by
  unfold checksum
  induction l generalizing x with
  | nil => simp
  | cons b r ih =>
    simp only [List.foldl_cons]
    rw [ih (x ^^^ b), ih (0 ^^^ b)]
    simp [BitVec.xor_assoc]

theorem checksum_cons (b : Byte) (l : List Byte) : checksum (b :: l) = b ^^^ checksum l := by
  have := checksum_foldl (0 ^^^ b) l
  simpa [checksum] using this

/-! ### Conditions (R162, R202, R206) -/

theorem complete_iff (s : State) : complete s = true ↔ s.rovf = false ∧ s.rlen = s.exp := by
  simp [complete]

theorem complete_eq_false_iff (s : State) : complete s = false ↔ s.rovf = true ∨ s.rlen ≠ s.exp := by
  cases h : s.rovf <;> simp [complete, h]

theorem admitted_iff (c : Cmd) (s : State) : admitted c s = true ↔ s.cfgStatus = .ready ∧ s.cfgMode = modeOf c := by
  cases c <;> cases h : s.cfgMode <;> simp [admitted, modeOf, h]

theorem deadlineReached_iff (s : State) : deadlineReached s = true ↔ s.params.timeoutMs ≤ s.elapsed := by
  simp [deadlineReached]

/-! ### The mode's bit (R22), the line's outputs (R171), the rounding (R77) -/

@[simp] theorem modeOfCode_modeCode (m : CfgMode) : modeOfCode (modeCode m) = m := by cases m <;> rfl

@[simp] theorem modeCode_modeOfCode (b : BitVec 1) : modeCode (modeOfCode b) = b := by revert b; decide

/-- Four bits hold at most four ones. -/
theorem lineCnt_le (m : BitVec 4) : lineCnt m ≤ 4 := by revert m; decide

/-- `LINE_HAS[j]` says that address `j` has a chunk; outside 1..4 there is no such output. -/
theorem lineHas_eq_some (s : State) (j : Nat) (b : Bool) :
    lineHas s j = some b ↔ (1 ≤ j ∧ j ≤ 4) ∧ decide (j ≤ lineCnt s.cfgAmask) = b := by
  unfold lineHas Config.nDev
  by_cases h : 1 ≤ j ∧ j ≤ 4 <;> simp [h]

/-- A rounding function leaves integers alone. -/
@[simp] theorem qRound_intCast (n : ℤ) : qRound (n : ℚ) = n := by simp [qRound]

end Sys2Proof.Machine
end

