-- ==== Sys2Proof/Laws/PerInstr.lean ====
section
/-! SUPPORT. The per-instruction family `PortRoundTrip`: decoding the port's value of a request gives the request back. -/

namespace Sys2Proof

/-- Each command is the one its code selects (R82, R84). -/
theorem Cmd.ofCode_code (c : Cmd) : Cmd.ofCode c.code = c := by cases c <;> decide

/-- Each code is that of the command it selects: no code is reserved (R83). -/
theorem Cmd.code_ofCode (k : BitVec 3) : (Cmd.ofCode k).code = k := by revert k; decide

/-- The command of a decoded request is the one its code selects. -/
theorem decode_cmd (r : Request) : (decode r).cmd = Cmd.ofCode r.cmd := by
  unfold decode; cases Cmd.ofCode r.cmd <;> rfl

/-- A decoded request keeps the port's word. -/
theorem decode_q (r : Request) : (decode r).q = r.q := by
  unfold decode; cases Cmd.ofCode r.cmd <;> rfl

namespace Laws

/-- The request a port's value decodes to, after encoding `i`, is `i` (R82, R84). -/
def PortRoundTrip.Statement (i : Instr) : Prop := decode (encode i) = i

theorem PortRoundTrip.readTemp (q : Word16) : PortRoundTrip.Statement (.readTemp q) := by
  simp only [Statement, decode, encode, Instr.cmd, Instr.q, Cmd.ofCode_code]
theorem PortRoundTrip.readTempLine (q : Word16) : PortRoundTrip.Statement (.readTempLine q) := by
  simp only [Statement, decode, encode, Instr.cmd, Instr.q, Cmd.ofCode_code]
theorem PortRoundTrip.readSerial (q : Word16) : PortRoundTrip.Statement (.readSerial q) := by
  simp only [Statement, decode, encode, Instr.cmd, Instr.q, Cmd.ofCode_code]
theorem PortRoundTrip.readFw (q : Word16) : PortRoundTrip.Statement (.readFw q) := by
  simp only [Statement, decode, encode, Instr.cmd, Instr.q, Cmd.ofCode_code]
theorem PortRoundTrip.readEmi (q : Word16) : PortRoundTrip.Statement (.readEmi q) := by
  simp only [Statement, decode, encode, Instr.cmd, Instr.q, Cmd.ofCode_code]
theorem PortRoundTrip.writeEmi (q : Word16) : PortRoundTrip.Statement (.writeEmi q) := by
  simp only [Statement, decode, encode, Instr.cmd, Instr.q, Cmd.ofCode_code]
theorem PortRoundTrip.readTrans (q : Word16) : PortRoundTrip.Statement (.readTrans q) := by
  simp only [Statement, decode, encode, Instr.cmd, Instr.q, Cmd.ofCode_code]
theorem PortRoundTrip.writeTrans (q : Word16) : PortRoundTrip.Statement (.writeTrans q) := by
  simp only [Statement, decode, encode, Instr.cmd, Instr.q, Cmd.ofCode_code]

end Laws

end Sys2Proof
end

