-- ==== Sys2Proof/Laws/Steps.lean ====
section
/-! SUPPORT. For each step, once, everything it can answer. -/

namespace Sys2Proof.Machine

/-- ACCEPT answers a next state and nothing else: refused, latched, or held. -/
theorem accept_cases (c : Cmd) (q : Word16) (e : Encoded) (s : State) :
    (s.st = .idle ∧ admitted c s = false ∧ accept c q e s = .next (s.clearResult.setResult .refused c)) ∨
    (s.st = .idle ∧ admitted c s = true ∧ accept c q e s = .next (s.clearResult.latchRequest c q e)) ∨
    (s.st ≠ .idle ∧ accept c q e s = .next (s.holdRequest c q)) := by
  unfold accept
  by_cases h : s.st = .idle <;> cases ha : admitted c s <;> simp [h]

/-- OPEN: armed, failed, or not enabled. -/
theorem openStep_cases (ok : Bool) (s : State) :
    (s.st = .opening ∧ ok = true ∧ openStep ok s = .next ((s.setLineOpen true).goto .arm)) ∨
    (s.st = .opening ∧ ok = false ∧ openStep ok s =
      .next ((((s.setLineOpen true).setLineOpen false).clearBuffer.setResult .fail s.curCmd).goto .idle)) ∨
    (s.st ≠ .opening ∧ openStep ok s = .next s) := by
  unfold openStep
  by_cases h : s.st = .opening <;> cases ok <;> simp [h]

/-- SEND: the last byte, another byte, no such byte, or not enabled. -/
theorem sendStep_cases (s : State) :
    (s.st = .send ∧ s.frame.get s.txi.toNat = none ∧ sendStep s = .fault (.frameIndex s.txi)) ∨
    (∃ b, s.st = .send ∧ s.frame.get s.txi.toNat = some b ∧ s.txi + 1 = s.flen ∧
      sendStep s = .next ((s.emitTx b).nextTx.startTimer.goto .wait)) ∨
    (∃ b, s.st = .send ∧ s.frame.get s.txi.toNat = some b ∧ s.txi + 1 ≠ s.flen ∧
      sendStep s = .next (s.emitTx b).nextTx) ∨
    (s.st ≠ .send ∧ sendStep s = .next s) := by
  unfold sendStep
  by_cases h : s.st = .send
  · cases hg : s.frame.get s.txi.toNat with
    | none => simp [h]
    | some b =>
      by_cases hl : s.txi + 1 = s.flen
      · exact .inr (.inl ⟨b, h, rfl, hl, by simp only [h, hl, if_true]⟩)
      · exact .inr (.inr (.inl ⟨b, h, rfl, hl, by simp only [h, hl, if_true, if_false]⟩))
  · simp [h]

/-- WAIT: complete, past the deadline, or asleep. -/
theorem checkStep_cases (s : State) :
    ((complete s = true ∨ s.params.timeoutMs ≤ s.elapsed) ∧ checkStep s = .next (s.goto .close)) ∨
    (complete s = false ∧ s.elapsed < s.params.timeoutMs ∧ checkStep s = .next (s.goto .sleep)) := by
  unfold checkStep deadlineReached
  by_cases hc : complete s = true <;> by_cases hd : s.params.timeoutMs ≤ s.elapsed <;> simp [hc, hd]; omega

/-- SLEEP: a tick counted, or not enabled. -/
theorem sleepStep_cases (s : State) :
    (s.st = .sleep ∧ sleepStep s = .next (s.addPoll.goto .wait)) ∨
    (s.st ≠ .sleep ∧ sleepStep s = .next s) := by
  unfold sleepStep
  by_cases h : s.st = .sleep <;> simp [h]

/-- RX: stored, overflowed, or discarded. -/
theorem rxStep_cases (b : Byte) (s : State) :
    (∃ h : s.rlen.toNat < 8, s.rxEn = true ∧
      rxStep b s = .next (s.storeByte ⟨s.rlen.toNat, h⟩ b)) ∨
    (8 ≤ s.rlen.toNat ∧ s.rxEn = true ∧ rxStep b s = .next s.setOverflow) ∨
    (s.rxEn = false ∧ rxStep b s = .next s) := by
  unfold rxStep
  cases hr : s.rxEn
  · simp
  · by_cases h : s.rlen.toNat < 8
    · exact .inl ⟨h, rfl, by simp [h]⟩
    · exact .inr (.inl ⟨by omega, rfl, by simp [h]⟩)

/-- CONFIGURE: an invalid operand, an unusable port, ready, or not enabled. -/
theorem configureStep_cases (m : CfgMode) (a : BitVec 3) (k : BitVec 4) (ok : Bool) (s : State) :
    (∃ c, s.cfgStatus = .unconfigured ∧ s.st = .idle ∧ configCause m a k = some c ∧
      configureStep m a k ok s = .next (s.raiseConfigError c)) ∨
    (s.cfgStatus = .unconfigured ∧ s.st = .idle ∧ configCause m a k = none ∧ ok = false ∧
      configureStep m a k ok s = .next (((s.setLineOpen true).setLineOpen false).raiseConfigError .portUnusable)) ∨
    (s.cfgStatus = .unconfigured ∧ s.st = .idle ∧ configCause m a k = none ∧ ok = true ∧
      configureStep m a k ok s = .next (((s.setLineOpen true).setLineOpen false).setConfig m a k)) ∨
    (¬ (s.cfgStatus = .unconfigured ∧ s.st = .idle) ∧ configureStep m a k ok s = .next s) := by
  unfold configureStep
  by_cases h : s.cfgStatus = .unconfigured ∧ s.st = .idle
  · cases hc : configCause m a k with
    | some c => simp [h]
    | none => cases ok <;> simp [h]
  · simp only [h, if_false]
    simp

/-- `configCause` finds nothing exactly where the operand is valid (R272). -/
theorem configCause_none_iff (m : CfgMode) (a : BitVec 3) (k : BitVec 4) : configCause m a k = none ↔ m.Valid a k := by
  cases m with
  | single =>
    simp only [configCause, CfgMode.Valid, Config.nDev]
    by_cases h : 1 ≤ a.toNat ∧ a.toNat ≤ 4 <;> simp [h]
  | line =>
    simp only [configCause, CfgMode.Valid]
    by_cases h : k = 0 <;> simp [h]

/-- Every request's meaning is ACCEPT of its command and its word with R100's encoding. -/
theorem exec_eq_accept (i : Instr) (s : State) : exec i s = accept i.cmd i.q (encodeFrame i.cmd i.q s) s := by
  cases i <;> rfl

/-- A step runs the request it fetches, or lets one agent move. -/
theorem step_cases (s : State) :
    (∃ r, nextMove s = .fsm ∧ s.st = .idle ∧ s.reqPort = some r ∧ step s = exec (decode r) s.dropMove.takeRequest) ∨
    (¬ (nextMove s = .fsm ∧ s.st = .idle ∧ s.reqPort.isSome = true) ∧ step s = agentStep (nextMove s) s.dropMove) := by
  unfold step fetch
  by_cases h : nextMove s = .fsm ∧ s.st = .idle
  · cases hr : s.reqPort with
    | none => simp [h]
    | some r => simp [h]
  · refine .inr ⟨fun hh => h ⟨hh.1, hh.2.1⟩, ?_⟩
    simp only [h, if_false]

/-! ### Runs -/

@[simp] theorem run_zero (s : State) : Safety.run 0 s = .next s := rfl

/-- A run whose first step answers a next state goes on from it, on any machine. -/
theorem run_of_next (M : Host.Core) (n : Nat) (s t : M.State) (h : M.step s = .next t) : M.run (n + 1) s = M.run n t := by
  simp only [Host.Core.run, h]

/-- A run of `m + n` steps is a run of `n` after a run of `m`, on any machine. -/
theorem run_of_add (M : Host.Core) (m n : Nat) (s t : M.State) (h : M.run m s = .next t) : M.run (m + n) s = M.run n t := by
  induction m generalizing s with
  | zero => simp only [Host.Core.run] at h; cases h; simp
  | succ m ih =>
    rw [Nat.add_right_comm]
    simp only [Host.Core.run] at h ⊢
    cases hs : M.step s with
    | next u => rw [hs] at h; exact ih u h
    | fault r => rw [hs] at h; cases h
    | refused r => rw [hs] at h; cases h

theorem run_next (n : Nat) (s t : State) (h : step s = .next t) : Safety.run (n + 1) s = Safety.run n t :=
  run_of_next core n s t h

theorem run_add (m n : Nat) (s t : State) (h : Safety.run m s = .next t) : Safety.run (m + n) s = Safety.run n t :=
  run_of_add core m n s t h

/-! ### Inversion -/

/-- Everything a step can do, one constructor per outcome that is a next state, with what enables it. -/
inductive Moved (s : State) : State → Prop
  /-- ACCEPT, not admitted (R202). -/
  | refused (r : Request) (move : nextMove s = .fsm) (st : s.st = .idle) (port : s.reqPort = some r)
      (adm : admitted (decode r).cmd s = false) :
      Moved s (s.dropMove.takeRequest.clearResult.setResult .refused (decode r).cmd)
  /-- ACCEPT, admitted (R201). -/
  | taken (r : Request) (move : nextMove s = .fsm) (st : s.st = .idle) (port : s.reqPort = some r)
      (adm : admitted (decode r).cmd s = true) :
      Moved s (s.dropMove.takeRequest.clearResult.latchRequest (decode r).cmd (decode r).q
        (encodeFrame (decode r).cmd (decode r).q s))
  /-- OPEN, answered ok (R203). -/
  | opened (move : nextMove s = .openAns true) (st : s.st = .opening) : Moved s ((s.dropMove.setLineOpen true).goto .arm)
  /-- OPEN, answered fail (R203). -/
  | openFailed (move : nextMove s = .openAns false) (st : s.st = .opening) :
      Moved s ((((s.dropMove.setLineOpen true).setLineOpen false).clearBuffer.setResult .fail s.curCmd).goto .idle)
  /-- ARM (R204). -/
  | armed (move : nextMove s = .fsm) (st : s.st = .arm) : Moved s (s.dropMove.clearBuffer.armWindow.goto .send)
  /-- SEND, a byte that is not the last (R205). -/
  | sent (b : Byte) (move : nextMove s = .txReady) (st : s.st = .send) (byte : s.frame.get s.txi.toNat = some b)
      (last : s.txi + 1 ≠ s.flen) : Moved s (s.dropMove.emitTx b).nextTx
  /-- SEND, the last byte (R205). -/
  | sentLast (b : Byte) (move : nextMove s = .txReady) (st : s.st = .send) (byte : s.frame.get s.txi.toNat = some b)
      (last : s.txi + 1 = s.flen) : Moved s ((s.dropMove.emitTx b).nextTx.startTimer.goto .wait)
  /-- WAIT, complete or past the deadline (R206). -/
  | checkedOut (move : nextMove s = .fsm) (st : s.st = .wait) (why : complete s = true ∨ s.params.timeoutMs ≤ s.elapsed) :
      Moved s (s.dropMove.goto .close)
  /-- WAIT, neither (R206). -/
  | checkedOn (move : nextMove s = .fsm) (st : s.st = .wait) (short : complete s = false)
      (early : s.elapsed < s.params.timeoutMs) : Moved s (s.dropMove.goto .sleep)
  /-- SLEEP, a tick (R207). -/
  | ticked (move : nextMove s = .tick) (st : s.st = .sleep) : Moved s (s.dropMove.addPoll.goto .wait)
  /-- CLOSE (R208). -/
  | closed (move : nextMove s = .fsm) (st : s.st = .close) :
      Moved s (((s.dropMove.setLineOpen false).stopRx.setResult (if exchangeOk s then .ok else .fail) s.curCmd).goto .idle)
  /-- RX, stored (R160). -/
  | stored (b : Byte) (h : s.rlen.toNat < 8) (move : nextMove s = .rx b) (window : s.rxEn = true) :
      Moved s (s.dropMove.storeByte ⟨s.rlen.toNat, h⟩ b)
  /-- RX, the buffer full (R161). -/
  | overflowed (b : Byte) (move : nextMove s = .rx b) (window : s.rxEn = true) (full : 8 ≤ s.rlen.toNat) :
      Moved s s.dropMove.setOverflow
  /-- CONFIGURE, invalid (R272). -/
  | configRejected (m : CfgMode) (a : BitVec 3) (k : BitVec 4) (ok : Bool) (c : CfgCause) (move : nextMove s = .config (modeCode m) a k ok)
      (fresh : s.cfgStatus = .unconfigured) (st : s.st = .idle) (cause : configCause m a k = some c) :
      Moved s (s.dropMove.raiseConfigError c)
  /-- CONFIGURE, the probe fails (R273). -/
  | portUnusable (m : CfgMode) (a : BitVec 3) (k : BitVec 4) (move : nextMove s = .config (modeCode m) a k false)
      (fresh : s.cfgStatus = .unconfigured) (st : s.st = .idle) (valid : m.Valid a k) :
      Moved s (((s.dropMove.setLineOpen true).setLineOpen false).raiseConfigError .portUnusable)
  /-- CONFIGURE, READY (R271). -/
  | configured (m : CfgMode) (a : BitVec 3) (k : BitVec 4) (move : nextMove s = .config (modeCode m) a k true)
      (fresh : s.cfgStatus = .unconfigured) (st : s.st = .idle) (valid : m.Valid a k) :
      Moved s (((s.dropMove.setLineOpen true).setLineOpen false).setConfig m a k)
  /-- The client drives the port (R217). -/
  | presented (r : Request) (move : nextMove s = .request r) : Moved s (s.dropMove.presentRequest r)
  /-- Reset (R270). -/
  | reset (move : nextMove s = .rst) (t : State) (answer : resetStep s.dropMove = .next t) : Moved s t
  /-- No step is enabled (R13): no FSM step, no request to accept, no byte to store, no configuration to take. -/
  | held (move : nextMove s ≠ .rst) (hold : Safety.enables (nextMove s) s.st = false)
      (port : ¬ (nextMove s = .fsm ∧ s.st = .idle ∧ s.reqPort.isSome = true))
      (client : ∀ r, nextMove s ≠ .request r) (window : ∀ b, nextMove s = .rx b → s.rxEn = false)
      (config : ∀ b a k ok, nextMove s = .config b a k ok → ¬ (s.cfgStatus = .unconfigured ∧ s.st = .idle)) :
      Moved s s.dropMove

/-- A step that answers a next state did one of these. -/
theorem step_moved (s t : State) (h : step s = .next t) : Moved s t := by
  rcases step_cases s with ⟨r, h1, h2, h3, h4⟩ | ⟨hn, h4⟩
  · rw [h4, exec_eq_accept] at h
    rcases accept_cases (decode r).cmd (decode r).q (encodeFrame (decode r).cmd (decode r).q s.dropMove.takeRequest)
      s.dropMove.takeRequest with ⟨_, ha, he⟩ | ⟨_, ha, he⟩ | ⟨hi, _⟩
    · rw [he] at h; cases h; exact .refused r h1 h2 h3 ha
    · rw [he] at h; cases h; exact .taken r h1 h2 h3 ha
    · exact absurd h2 hi
  · rw [h4] at h
    cases hm : nextMove s with
    | rst => rw [hm] at h; exact .reset hm t h
    | config b a k ok =>
      rw [hm] at h
      have hb : nextMove s = .config (modeCode (modeOfCode b)) a k ok := by rw [modeCode_modeOfCode]; exact hm
      rcases configureStep_cases (modeOfCode b) a k ok s.dropMove with
        ⟨c, hc, hi, hcause, he⟩ | ⟨hc, hi, hv, rfl, he⟩ | ⟨hc, hi, hv, rfl, he⟩ | ⟨hc, he⟩ <;>
        (simp only [agentStep, he] at h; cases h)
      · exact .configRejected (modeOfCode b) a k ok c hb hc hi hcause
      · exact .portUnusable (modeOfCode b) a k hb hc hi ((configCause_none_iff _ a k).1 hv)
      · exact .configured (modeOfCode b) a k hb hc hi ((configCause_none_iff _ a k).1 hv)
      · exact .held (by simp [hm]) (by simp [hm, Safety.enables]) hn (by simp [hm]) (by simp [hm]) (fun _ _ _ _ _ => hc)
    | request r => rw [hm] at h; simp only [agentStep] at h; cases h; exact .presented r hm
    | openAns ok =>
      rw [hm] at h
      rcases openStep_cases ok s.dropMove with ⟨hs, rfl, he⟩ | ⟨hs, rfl, he⟩ | ⟨hs, he⟩ <;>
        (simp only [agentStep, he] at h; cases h)
      · exact .opened hm hs
      · exact .openFailed hm hs
      · refine .held (by simp [hm]) ?_ hn (by simp [hm]) (by simp [hm]) (by simp [hm])
        rw [hm]; simp only [State.dropMove_st] at hs
        cases hst : s.st <;> simp_all [Safety.enables]
    | txReady =>
      rw [hm] at h
      rcases sendStep_cases s.dropMove with ⟨hs, hg, he⟩ | ⟨b, hs, hg, hl, he⟩ | ⟨b, hs, hg, hl, he⟩ | ⟨hs, he⟩ <;>
        (simp only [agentStep, he] at h; cases h)
      · exact .sentLast b hm hs hg hl
      · exact .sent b hm hs hg hl
      · refine .held (by simp [hm]) ?_ hn (by simp [hm]) (by simp [hm]) (by simp [hm])
        rw [hm]; simp only [State.dropMove_st] at hs
        cases hst : s.st <;> simp_all [Safety.enables]
    | rx b =>
      rw [hm] at h
      rcases rxStep_cases b s.dropMove with ⟨hl, hw, he⟩ | ⟨hl, hw, he⟩ | ⟨hw, he⟩ <;>
        (simp only [agentStep, he] at h; cases h)
      · exact @Moved.stored s b hl hm hw
      · exact .overflowed b hm hw hl
      · exact .held (by simp [hm]) (by simp [hm, Safety.enables]) hn (by simp [hm]) (fun _ _ => hw) (by simp [hm])
    | tick =>
      rw [hm] at h
      rcases sleepStep_cases s.dropMove with ⟨hs, he⟩ | ⟨hs, he⟩ <;> (simp only [agentStep, he] at h; cases h)
      · exact .ticked hm hs
      · refine .held (by simp [hm]) ?_ hn (by simp [hm]) (by simp [hm]) (by simp [hm])
        rw [hm]; simp only [State.dropMove_st] at hs
        cases hst : s.st <;> simp_all [Safety.enables]
    | fsm =>
      rw [hm] at h
      simp only [agentStep, fsmStep, State.dropMove_st] at h
      cases hst : s.st <;> rw [hst] at h <;> simp only at h
      case arm => cases h; exact .armed hm hst
      case wait =>
        rcases checkStep_cases s.dropMove with ⟨hw, he⟩ | ⟨hc, hd, he⟩ <;> (rw [he] at h; cases h)
        · exact .checkedOut hm hst hw
        · exact .checkedOn hm hst hc hd
      case close => cases h; exact .closed hm hst
      all_goals (cases h; exact .held (by simp [hm]) (by simp [hm, hst, Safety.enables]) hn (by simp [hm]) (by simp [hm]) (by simp [hm]))

end Sys2Proof.Machine
end

