-- ==== Sys2Proof/Tests/Slice0.lean ====
section
/-! SUPPORT. Tests: each expected value is one of 95_test_vectors.md (named in the test's docstring) or is worked out by hand from the rule
named; then, for each statement with hypotheses, a state and operands that meet them. -/

namespace Sys2Proof.Tests

open Sys2Proof.Machine Sys2Proof.Safety

/-- Under 95_test_vectors.md's example configuration EX, the defaults of R7 and R10. -/
def ex : Params := { opc := ⟨0x01, 0x01, 0x0E, 0x0F, 0x04, 0x84, 0x05, 0x85⟩, pollMs := 30, timeoutMs := 1000, echoOrder := .same, fwSigned := false }

/-- UNCONFIGURED under EX. -/
def fresh : State := { State.reset with params := ex }

/-- READY in SINGLE mode. -/
def single (a : BitVec 3) : State := { fresh with cfgStatus := .ready, cfgMode := .single, cfgAddr := a }

/-- READY in LINE mode. -/
def line (m : BitVec 4) : State := { fresh with cfgStatus := .ready, cfgMode := .line, cfgAmask := m }

/-- An exchange of `c` from device 1 in state `e`, with `n` bytes received and its window open. -/
def busy (c : Cmd) (e : ExchState) (n : BitVec 4) : State :=
  { single 1 with
    st := e, curCmd := c, curQ := 0x03B6, lineOpen := true, rxEn := true, rlen := n
    frame := ⟨0xB1, 0x84, 0x03, 0xB6, 0x31⟩, flen := frameLen (formatOf c), exp := BitVec.ofNat 4 (expLen 0 c) }

/-- What a state holds after a step that answers one. -/
def after {α : Type} (r : Result) (f : State → α) : Option α :=
  match r with
  | .next t => some (f t)
  | .fault _ => none
  | .refused _ => none

/-- Bytes stored from RB[0] on. -/
def rbOf (bs : List Byte) : Memory := ⟨cellsFrom 0 bs⟩
where
  cellsFrom : Nat → List Byte → List Host.Cell
    | _, [] => []
    | k, b :: r => if b = 0 then cellsFrom (k + 1) r else (k, b) :: cellsFrom (k + 1) r

/-! ### Well-formed requests (R85) -/

theorem test_wf_refuses_read_temp_with_q : ¬ (Instr.readTemp 1).WellFormed := by decide
theorem test_wf_refuses_read_temp_line_with_q : ¬ (Instr.readTempLine 1).WellFormed := by decide
theorem test_wf_refuses_read_serial_with_q : ¬ (Instr.readSerial 0x8000).WellFormed := by decide
theorem test_wf_refuses_read_fw_with_q : ¬ (Instr.readFw 1).WellFormed := by decide
theorem test_wf_refuses_read_emi_with_q : ¬ (Instr.readEmi 1).WellFormed := by decide
theorem test_wf_refuses_read_trans_with_q : ¬ (Instr.readTrans 1).WellFormed := by decide
theorem test_wf_takes_write_with_q : (Instr.writeEmi 0x03B6).WellFormed ∧ (Instr.writeTrans 1).WellFormed := by decide
/-- R272: addresses 0 and 5 are outside [1,4], the empty set is refused. -/
theorem test_valid_refuses : ¬ CfgMode.single.Valid 0 0 ∧ ¬ CfgMode.single.Valid 5 0 ∧ ¬ CfgMode.line.Valid 1 0 := by decide
theorem test_valid_takes : CfgMode.single.Valid 1 0 ∧ CfgMode.single.Valid 4 0 ∧ CfgMode.line.Valid 0 0b1000 := by decide

/-! ### Decoding: R82's codes, written out -/

theorem test_decode_read_temp : decodeTableWord 8 0b00000000 = some (.readTemp 0) := by decide
theorem test_decode_read_temp_line : decodeTableWord 8 0b00000001 = some (.readTempLine 0) := by decide
theorem test_decode_read_serial : decodeTableWord 8 0b00000010 = some (.readSerial 0) := by decide
theorem test_decode_read_fw : decodeTableWord 8 0b00000011 = some (.readFw 0) := by decide
theorem test_decode_read_emi : decodeTableWord 8 0b00000100 = some (.readEmi 0) := by decide
theorem test_decode_write_emi : decodeTableWord 8 0b00000101 = some (.writeEmi 0) := by decide
theorem test_decode_read_trans : decodeTableWord 8 0b00000110 = some (.readTrans 0) := by decide
theorem test_decode_write_trans : decodeTableWord 8 0b00000111 = some (.writeTrans 0) := by decide
/-- The mask is 7: the bits above the code drive no pin (log 4). -/
theorem test_decode_ignores_padding : decodeTableWord 8 0b00010001 = some (.readTempLine 0) := by decide
theorem test_decode_refuses_length : decodeBytes [5, 0xB6] = .error (.wrongLength 2) := by decide
theorem test_encode_write_emi : encodeBytes 0 (.writeEmi 0x03B6) = [0x05, 0xB6, 0x03] := by decide

/-! ### The requests, under EX -/

/-- E2: SINGLE addr=4, READ_TEMP. -/
theorem test_read_temp : after (exec (.readTemp 0) (single 4)) (fun t => (t.frame.f0, t.frame.f1, t.flen, t.exp, t.st)) =
    some (0xB4, 0x01, 2, 2, .opening) := by decide
/-- T13: READ_TEMP refused in LINE mode (P2). -/
theorem test_read_temp_refused : after (exec (.readTemp 0) (line 7)) (fun t => (t.st, t.resValid, t.resKind, t.resCmd)) =
    some (.idle, true, .refused, .readTemp) := by decide
/-- E7: LINE {2,4}. -/
theorem test_read_temp_line : after (exec (.readTempLine 0) (line 0b1010)) (fun t => (t.frame, t.flen, t.exp)) =
    some (⟨0xB0, 0x01, 0x04, 0x05, 0x00⟩, 4, 4) := by decide
/-- E3: LINE {1}: the checksum is 0. -/
theorem test_read_temp_line_one : after (exec (.readTempLine 0) (line 0b0001)) (fun t => (t.frame, t.flen, t.exp)) =
    some (⟨0xB0, 0x01, 0x01, 0x00, 0x00⟩, 4, 2) := by decide
/-- E10. -/
theorem test_read_serial : after (exec (.readSerial 0) (single 2)) (fun t => (t.frame.f0, t.frame.f1, t.flen, t.exp)) =
    some (0xB2, 0x0E, 2, 3) := by decide
/-- E11. -/
theorem test_read_fw : after (exec (.readFw 0) (single 3)) (fun t => (t.frame.f0, t.frame.f1, t.flen, t.exp)) =
    some (0xB3, 0x0F, 2, 2) := by decide
/-- E12. -/
theorem test_read_emi : after (exec (.readEmi 0) (single 1)) (fun t => (t.frame.f0, t.frame.f1, t.flen, t.exp)) =
    some (0xB1, 0x04, 2, 2) := by decide
/-- E16. -/
theorem test_write_emi : after (exec (.writeEmi 0x03B6) (single 1)) (fun t => (t.frame, t.flen, t.exp, t.curQ)) =
    some (⟨0xB1, 0x84, 0x03, 0xB6, 0x31⟩, 5, 2, 0x03B6) := by decide
/-- E20. -/
theorem test_write_emi_negative : after (exec (.writeEmi 0x8000) (single 1)) (fun t => t.frame) =
    some ⟨0xB1, 0x84, 0x80, 0x00, 0x04⟩ := by decide
/-- E22. -/
theorem test_read_trans : after (exec (.readTrans 0) (single 2)) (fun t => (t.frame.f0, t.frame.f1, t.flen, t.exp)) =
    some (0xB2, 0x05, 2, 2) := by decide
/-- E23. -/
theorem test_write_trans : after (exec (.writeTrans 0x03E8) (single 4)) (fun t => (t.frame, t.flen, t.exp)) =
    some (⟨0xB4, 0x85, 0x03, 0xE8, 0x6E⟩, 5, 2) := by decide
/-- T15: a request while ST = WAIT is not taken; the client holds it. -/
theorem test_busy_request_is_held : after (exec (.readFw 0) (busy .readTemp .wait 0)) (fun t => (t.st, t.curCmd, t.reqPort)) =
    some (.wait, .readTemp, some ⟨3, 0⟩) := by decide
/-- T14: refused right after reset, and the placed word is the first to run. -/
theorem test_first_word_runs : after (step (State.reset.withFetchWord 8 0b101)) (fun t => (t.resValid, t.resKind, t.resCmd)) =
    some (true, .refused, .writeEmi) := by decide

/-! ### The other steps -/

/-- G2 and G7: no I/O on a bad address; READY after an open and a close. -/
theorem test_configure_bad_addr : after (configureStep .single 5 0 true fresh) (fun t => (t.cfgStatus, t.cfgCause, t.lineLog)) =
    some (.configError, .badAddr, []) := by decide
theorem test_configure_line : after (configureStep .line 0 0b1010 true fresh) (fun t => (t.cfgStatus, t.cfgMode, t.cfgAmask, t.lineLog)) =
    some (.ready, .line, 0b1010, [.raiseOpen, .lowerOpen]) := by decide
/-- G5: the probe fails. -/
theorem test_configure_port : after (configureStep .single 3 0 false fresh) (fun t => (t.cfgStatus, t.cfgCause, t.lineOpen)) =
    some (.configError, .portUnusable, false) := by decide
/-- T12: the open fails. -/
theorem test_open_fails : after (openStep false { single 1 with st := .opening, curCmd := .readFw }) (fun t => (t.st, t.resKind, t.resCmd, t.lineOpen)) =
    some (.idle, .fail, .readFw, false) := by decide
/-- B6: the ninth byte. -/
theorem test_rx_overflow : after (rxStep 9 (busy .readTemp .wait 8)) (fun t => (t.rlen, t.rovf, complete t)) = some (8, true, false) := by decide
/-- B8: a byte outside the window. -/
theorem test_rx_discarded : after (rxStep 9 (single 1)) (fun t => t == single 1) = some true := by decide
/-- T3's last check: 1020 >= 1000 closes; 990 does not. -/
theorem test_check_deadline : after (checkStep { busy .readTemp .wait 0 with elapsed := 1020 }) (fun t => t.st) = some .close ∧
    after (checkStep { busy .readTemp .wait 0 with elapsed := 990 }) (fun t => t.st) = some .sleep := by decide
/-- L1.7 and W1: the echo decides a write. -/
theorem test_close_write : after (closeStep { busy .writeEmi .close 2 with rb := rbOf [0x03, 0xB7] }) (fun t => (t.resKind, t.st)) = some (.fail, .idle) ∧
    after (closeStep { busy .writeEmi .close 2 with rb := rbOf [0x03, 0xB6] }) (fun t => (t.resKind, t.st)) = some (.ok, .idle) := by decide
/-- W2: the reversed reading. -/
theorem test_echo_reversed : echoOk 0x03B6 { busy .writeEmi .close 2 with rb := rbOf [0xB6, 0x03], params := { ex with echoOrder := .reversed } } = true := by decide
theorem test_send_last : after (sendStep { busy .readTemp .send 0 with txi := 1 }) (fun t => (t.st, t.txi, t.lineLog)) =
    some (.wait, 2, [.tx 0x84]) := by decide

/-! ### Checksum and unpackers: L2.2, L2.3 -/

theorem test_checksum : checksum [0x12, 0x34] = 0x26 ∧ checksum [0x84, 0x03, 0xB6] = 0x31 ∧ checksum [0xAA, 0x55, 0xFF] = 0x00 := by decide
/-- T1, T8, T9, T10. -/
theorem test_temperature : decodeTemperature [0x00, 0x00] = some (-1000) ∧ decodeTemperature [0x27, 0x10] = some 9000 ∧
    decodeTemperature [0xFF, 0xFF] = some 64535 ∧ decodeTemperature [0x03] = none := by decide
/-- Q5, Q6. -/
theorem test_ratio : decodeRatio [0x04, 0x4D] = some 1101 ∧ decodeRatio [0xFF, 0xFF] = some 65535 := by decide
/-- S1, S4. -/
theorem test_serial : decodeSerial [0x12, 0x34, 0x56] = some 0x00123456 ∧ decodeSerial [0x12, 0x34] = none := by decide
/-- R22: LINE is 1. R173: LINE_HAS has no value without a standing OK result of READ_TEMP_LINE, and is 0 past LINE_CNT with one. -/
theorem test_mode_bit : modeCode .single = 0 ∧ modeCode .line = 1 ∧ modeOfCode 1 = .line := by decide
theorem test_line_has : outLineHas (line 0b1010) 1 = none ∧
    (List.range 6).map (outLineHas { line 0b1010 with resValid := true, resKind := .ok, resCmd := .readTempLine }) =
      [none, some true, some true, some false, some false, none] := by decide
/-- R77: 0.95 gives 950, whatever the open part of the rounding. -/
theorem test_pseudo_write : pseudoWriteEmi (95 / 100) = .writeEmi 950 := by
  rw [pseudoWriteEmi, quantize, show (95 / 100 : ℚ) * Config.rScale = ((950 : ℤ) : ℚ) by norm_num [Config.rScale], qRound_intCast]
  rfl
/-- F2. -/
theorem test_firmware : decodeFirmware false [0x80, 0x00] = some 32768 ∧ decodeFirmware true [0x80, 0x00] = some (-32768) := by decide
/-- U2: chunk 0 to address 1 and chunk 1 to address 2, though {2,4} is configured. -/
theorem test_line : (List.range 6).map (lineT10 { line 0b1010 with rb := rbOf [0x03, 0xE8, 0x04, 0xD2] }) =
    [none, some 0, some 234, none, none, none] := by decide

/-! ### The notation of R85 -/

theorem test_parse_write : parseLine (fun _ => 0) true "WRITE_EMI q=0x03B6 ; note".toList = some [.request ⟨5, 0x03B6⟩] := by decide
theorem test_parse_config : parseLine (fun _ => 0) true "CONFIG SINGLE addr=5".toList = some [.config 0 5 0 true] := by decide
theorem test_parse_rx : parseLine (fun _ => 0) true "  RX D2".toList = some [.rx 0xD2] := by decide
theorem test_parse_refuses : parseLine (fun _ => 0) true "READ_TEMP q=1".toList = none := by decide
theorem test_parse_mask : maskOf [2, 4] = some 0b1010 ∧ maskOf [2, 2] = some 0b0010 ∧ maskOf [5] = none := by decide

/-! ### Witnesses: for each statement with hypotheses, a state and operands that meet them all, each clause at the ends of its range -/

/-- What the other agents hold has no part in the invariants. -/
theorem inv_of_env (s : State) (p : Option Request) (m : List Stimulus) (l : List LineAct) (h : Inv s) :
    Inv { s with reqPort := p, stimuli := m, lineLog := l } :=
  { exchange := ⟨h.1.1, h.1.2, h.1.3, h.1.4, h.1.5, h.1.6⟩
    poll_positive := h.2, cfg_valid := h.3, opening_is_closed := h.4, arm_is_open := h.5, sleep_before_deadline := h.6
    busy_registers := h.7, send_inside_frame := h.8, ok_is_complete := h.9, memory_canonical := h.10 }

theorem inv_single (a : BitVec 3) (h : 1 ≤ a.toNat ∧ a.toNat ≤ 4) : Inv (single a) :=
  { exchange := ⟨by simp [single, fresh, State.reset], fun _ => ⟨rfl, rfl⟩, fun hs => by simp [single, fresh, State.reset] at hs,
      by simp [single, fresh, State.reset], fun hs => by simp [single, fresh, State.reset] at hs, fun _ => rfl⟩
    poll_positive := (by decide : 1 ≤ 30), cfg_valid := fun _ => h
    opening_is_closed := nofun, arm_is_open := nofun, sleep_before_deadline := nofun, busy_registers := fun hs => absurd rfl hs
    send_inside_frame := nofun, ok_is_complete := nofun, memory_canonical := rfl }

theorem inv_line (m : BitVec 4) (h : m ≠ 0) : Inv (line m) :=
  { exchange := ⟨by simp [line, fresh, State.reset], fun _ => ⟨rfl, rfl⟩, fun hs => by simp [line, fresh, State.reset] at hs,
      by simp [line, fresh, State.reset], fun hs => by simp [line, fresh, State.reset] at hs, fun _ => rfl⟩
    poll_positive := (by decide : 1 ≤ 30), cfg_valid := fun _ => h
    opening_is_closed := nofun, arm_is_open := nofun, sleep_before_deadline := nofun, busy_registers := fun hs => absurd rfl hs
    send_inside_frame := nofun, ok_is_complete := nofun, memory_canonical := rfl }

theorem inv_busy (c : Cmd) (hc : c ≠ .readTempLine) (e : ExchState) (he : e = .send ∨ e = .wait ∨ e = .sleep ∨ e = .close)
    (n : BitVec 4) (hn : n.toNat ≤ 8) : Inv (busy c e n) :=
  { exchange := ⟨fun _ => rfl, fun hs => by subst hs; simp at he, fun _ => ⟨rfl, rfl⟩, ⟨hn, nofun⟩, fun _ => ⟨0, Nat.zero_le _, rfl⟩,
      fun hs => absurd rfl hs⟩
    poll_positive := (by decide : 1 ≤ 30), cfg_valid := fun _ => (by decide : 1 ≤ 1 ∧ 1 ≤ 4)
    opening_is_closed := fun hs => by subst hs; simp at he
    arm_is_open := fun hs => by subst hs; simp at he
    sleep_before_deadline := fun _ => (by decide : 0 < 1000)
    busy_registers := fun _ => by cases c <;> first | exact absurd rfl hc | exact ⟨rfl, rfl, rfl⟩
    send_inside_frame := fun _ => (by cases c <;> decide : 0 < (frameLen (formatOf c)).toNat)
    ok_is_complete := nofun, memory_canonical := rfl }

/-- A result OK of `c` from device 1, with its reply in the buffer. -/
def answered (c : Cmd) (bytes : List Byte) : State :=
  { single 1 with resValid := true, resKind := .ok, resCmd := c, rlen := BitVec.ofNat 4 bytes.length, rb := rbOf bytes }

theorem inv_answered (c : Cmd) (bytes : List Byte) (hm : modeOf c = .single) (hl : (BitVec.ofNat 4 bytes.length).toNat = expLen 0 c)
    (h8 : (BitVec.ofNat 4 bytes.length).toNat ≤ 8) (hw : (rbOf bytes).wf = true) : Inv (answered c bytes) :=
  { exchange := ⟨nofun, fun _ => ⟨rfl, rfl⟩, fun hs => by simp [answered, single, fresh, State.reset] at hs, ⟨h8, nofun⟩,
      fun hs => by simp [answered, single, fresh, State.reset] at hs, fun _ => rfl⟩
    poll_positive := (by decide : 1 ≤ 30), cfg_valid := fun _ => (by decide : 1 ≤ 1 ∧ 1 ≤ 4)
    opening_is_closed := nofun, arm_is_open := nofun, sleep_before_deadline := nofun, busy_registers := fun hs => absurd rfl hs
    send_inside_frame := nofun, ok_is_complete := fun _ _ => ⟨rfl, hm.symm, rfl, hl, rfl⟩, memory_canonical := hw }

/-- A result OK of READ_TEMP_LINE over the mask. -/
def answeredLine (m : BitVec 4) (bytes : List Byte) : State :=
  { line m with resValid := true, resKind := .ok, resCmd := .readTempLine, rlen := BitVec.ofNat 4 bytes.length, rb := rbOf bytes }

theorem inv_answered_line (m : BitVec 4) (bytes : List Byte) (hm : m ≠ 0)
    (hl : (BitVec.ofNat 4 bytes.length).toNat = expLen m .readTempLine) (h8 : (BitVec.ofNat 4 bytes.length).toNat ≤ 8)
    (hw : (rbOf bytes).wf = true) : Inv (answeredLine m bytes) :=
  { exchange := ⟨nofun, fun _ => ⟨rfl, rfl⟩, fun hs => by simp [answeredLine, line, fresh, State.reset] at hs, ⟨h8, nofun⟩,
      fun hs => by simp [answeredLine, line, fresh, State.reset] at hs, fun _ => rfl⟩
    poll_positive := (by decide : 1 ≤ 30), cfg_valid := fun _ => hm
    opening_is_closed := nofun, arm_is_open := nofun, sleep_before_deadline := nofun, busy_registers := fun hs => absurd rfl hs
    send_inside_frame := nofun, ok_is_complete := fun _ _ => ⟨rfl, rfl, rfl, hl, rfl⟩, memory_canonical := hw }

theorem witness_CommandWordsDecode : ([5, 0xB6] : List Byte).length ≠ 3 ∧ ([5, 0xB6, 3, 0] : List Byte).length ≠ 3 := by decide
theorem witness_BytesDecodeExactlyTheirRequests : decodeBytes [0xFD, 0xB6, 0x03] = .ok (.writeEmi 0x03B6) ∧
    encodeBytes 31 (.writeEmi 0x03B6) = [0xFD, 0xB6, 0x03] := ⟨rfl, by decide⟩
theorem witness_StepRunsTheDecodedRequest : ∃ s t : State, s.st = .idle ∧ t.st = .idle ∧ s.reqPort = some ⟨5, 0x03B6⟩ ∧
    t.reqPort = some ⟨5, 0x03B6⟩ ∧ decode ⟨5, 0x03B6⟩ = .writeEmi 0x03B6 ∧ s.stimuli = .fsm :: [.tick] ∧ t.stimuli = [] :=
  ⟨{ single 1 with reqPort := some ⟨5, 0x03B6⟩, stimuli := [.fsm, .tick] }, { single 1 with reqPort := some ⟨5, 0x03B6⟩ },
    rfl, rfl, rfl, rfl, by decide, rfl, rfl⟩
theorem witness_PlacedWordRunsNext : (single 1).st = .idle ∧ decodeTableWord 24 0x03B605 = some (.writeEmi 0x03B6) := by decide
theorem witness_SingleReadsLatchTheirFrame : (single 1).st = .idle ∧ (single 1).cfgStatus = .ready ∧ (single 1).cfgMode = .single := by decide
theorem witness_WritesLatchTheirFrame : (single 4).st = .idle ∧ (single 4).cfgStatus = .ready ∧ (single 4).cfgMode = .single := by decide
theorem witness_LineReadLatchesItsFrame : (line 1).st = .idle ∧ (line 1).cfgStatus = .ready ∧ (line 1).cfgMode = .line ∧
    (line 15).st = .idle ∧ (line 15).cfgStatus = .ready ∧ (line 15).cfgMode = .line := by decide
/-- Not READY in both ways, and the wrong mode in both ways. -/
theorem witness_RequestsOutOfModeAreRefused :
    (fresh.st = .idle ∧ fresh.cfgStatus ≠ .ready) ∧
    ((line 1).st = .idle ∧ ¬ Belongs (Instr.readTemp 0).cmd (line 1).cfgMode) ∧
    ((single 1).st = .idle ∧ ¬ Belongs (Instr.readTempLine 0).cmd (single 1).cfgMode) := by
  refine ⟨by decide, ⟨rfl, ?_⟩, rfl, ?_⟩ <;> rintro (⟨h, h'⟩ | ⟨h, h'⟩) <;> revert h h' <;> decide
theorem witness_BusyRequestsAreHeld : (busy .readTemp .wait 0).st ≠ .idle ∧ (busy .readTemp .close 2).st ≠ .idle ∧
    ({ single 1 with stimuli := [.request ⟨3, 0⟩] } : State).stimuli = .request ⟨3, 0⟩ :: [] ∧
    ({ busy .readTemp .wait 0 with stimuli := [.request ⟨3, 0⟩] } : State).stimuli = .request ⟨3, 0⟩ :: [] := by decide
theorem witness_LatchedFrameIsTheEncoders : (single 1).st = .idle ∧ (single 1).cfgStatus = .ready ∧
    Belongs (Instr.writeTrans 7).cmd (single 1).cfgMode ∧ (line 8).st = .idle ∧ (line 8).cfgStatus = .ready ∧
    Belongs (Instr.readTempLine 0).cmd (line 8).cfgMode :=
  ⟨rfl, rfl, .inl ⟨rfl, by decide⟩, rfl, rfl, .inr ⟨rfl, rfl⟩⟩
/-- Refused, taken and not taken. -/
theorem witness_RequestsLeaveTheRestAlone :
    (∃ t, exec (.readTemp 0) fresh = .next t ∧ fresh.st = .idle ∧ t.st ≠ .opening) ∧
    (∃ t, exec (.readTemp 0) (single 1) = .next t ∧ (single 1).st = .idle) ∧
    (∃ t, exec (.readTemp 0) (busy .readFw .wait 0) = .next t ∧ (busy .readFw .wait 0).st ≠ .idle) :=
  ⟨⟨_, rfl, by decide⟩, ⟨_, rfl, by decide⟩, _, rfl, by decide⟩
theorem witness_AddressByteNamesTheDevice :
    (∃ t, CfgValid (single 4) ∧ (single 4).st = .idle ∧ exec (.readTemp 0) (single 4) = .next t ∧ t.st = .opening ∧
      (Instr.readTemp 0).cmd ≠ .readTempLine) ∧
    (∃ t, CfgValid (single 1) ∧ (single 1).st = .idle ∧ exec (.writeEmi 9) (single 1) = .next t ∧ t.st = .opening) ∧
    ∃ t, CfgValid (line 8) ∧ (line 8).st = .idle ∧ exec (.readTempLine 0) (line 8) = .next t ∧ t.st = .opening ∧
      (Instr.readTempLine 0).cmd = .readTempLine :=
  ⟨⟨_, (inv_single 4 (by decide)).cfg_valid, rfl, rfl, rfl, by decide⟩, ⟨_, (inv_single 1 (by decide)).cfg_valid, rfl, rfl, rfl⟩,
    _, (inv_line 8 (by decide)).cfg_valid, rfl, rfl, rfl, rfl⟩
theorem witness_LineCountAndMaximum : (1 : BitVec 4) ≠ 0 ∧ (15 : BitVec 4) ≠ 0 := by decide
/-- The masks of {4} and {1,2,3,4}. -/
theorem witness_LineFrameDependsOnTheMaximumOnly : (line 8).st = .idle ∧ (line 8).cfgStatus = .ready ∧ (line 8).cfgMode = .line ∧
    (line 8).cfgAmask ≠ 0 ∧ (15 : BitVec 4) ≠ 0 ∧ Nat.log2 (15 : BitVec 4).toNat = Nat.log2 (line 8).cfgAmask.toNat := by decide

/-- In OPEN, with the line's answers to come. -/
def openingWith (m : List Stimulus) : State := { single 1 with st := .opening, curCmd := .readFw, flen := 2, exp := 2, stimuli := m }

theorem witness_OpenAnswerArmsOrFails : (openingWith [.openAns true]).st = .opening ∧
    (openingWith [.openAns true]).stimuli = .openAns true :: [] ∧ (openingWith [.openAns false]).st = .opening ∧
    (openingWith [.openAns false]).stimuli = .openAns false :: [] := by decide
theorem witness_ArmClearsAndRegisters : ∃ s : State, s.st = .arm ∧ s.stimuli = .fsm :: [] :=
  ⟨{ openingWith [.fsm] with st := .arm }, rfl, rfl⟩
/-- The first of two bytes, and the last. -/
theorem witness_SendHandsOverTheFrameInOrder : ∃ s t : State,
    (s.st = .send ∧ s.stimuli = .txReady :: [] ∧ s.frame.get s.txi.toNat = some 0xB1 ∧ s.txi + 1 ≠ s.flen) ∧
    (t.st = .send ∧ t.stimuli = .txReady :: [] ∧ t.frame.get t.txi.toNat = some 0x84 ∧ t.txi + 1 = t.flen) :=
  ⟨{ busy .readTemp .send 0 with stimuli := [.txReady] }, { busy .readTemp .send 0 with stimuli := [.txReady], txi := 1 }, by decide, by decide⟩
theorem witness_CheckTestsCompletionThenDeadline : ∃ s : State, s.st = .wait ∧ s.stimuli = .fsm :: [] :=
  ⟨{ busy .readTemp .wait 2 with stimuli := [.fsm] }, rfl, rfl⟩
theorem witness_TickCountsOnlyInSleep : ∃ s t : State, (s.stimuli = .tick :: [] ∧ s.st = .sleep) ∧ (t.stimuli = .tick :: [] ∧ t.st ≠ .sleep) :=
  ⟨{ busy .readTemp .sleep 0 with stimuli := [.tick] }, { busy .readTemp .wait 0 with stimuli := [.tick] }, by decide, by decide⟩
theorem witness_CloseJudgesTheBufferAsItStands : ∃ s : State, s.st = .close ∧ s.stimuli = .fsm :: [] :=
  ⟨{ busy .writeEmi .close 2 with stimuli := [.fsm] }, rfl, rfl⟩
/-- Outside the window; seven bytes held; eight held. -/
theorem witness_ReceivedByteIsAppended : ∃ s t u : State,
    (s.rb.wf = true ∧ s.stimuli = .rx 9 :: [] ∧ s.rxEn = false) ∧
    (t.rb.wf = true ∧ t.stimuli = .rx 9 :: [] ∧ t.rxEn = true ∧ t.rlen.toNat < 8) ∧
    (u.rb.wf = true ∧ u.stimuli = .rx 9 :: [] ∧ u.rxEn = true ∧ 8 ≤ u.rlen.toNat) :=
  ⟨{ single 1 with stimuli := [.rx 9] }, { busy .readTemp .wait 7 with stimuli := [.rx 9] },
    { busy .readTemp .wait 8 with stimuli := [.rx 9] }, by decide, by decide, by decide⟩
/-- Not enabled in both ways; addresses 0, 5, 1 and 4; the empty mask and a mask; both answers. -/
theorem witness_ConfigureValidatesThenProbes :
    (single 1).cfgStatus ≠ .unconfigured ∧ (busy .readTemp .wait 0).st ≠ .idle ∧
    (fresh.cfgStatus = .unconfigured ∧ fresh.st = .idle ∧ fresh.lineOpen = false) ∧
    (¬ (1 ≤ (0 : BitVec 3).toNat ∧ (0 : BitVec 3).toNat ≤ 4)) ∧ (¬ (1 ≤ (5 : BitVec 3).toNat ∧ (5 : BitVec 3).toNat ≤ 4)) ∧
    CfgMode.single.Valid 1 0 ∧ CfgMode.single.Valid 4 0 ∧ CfgMode.line.Valid 0 1 ∧
    ({ fresh with stimuli := [.config 1 0 0 true] } : State).stimuli = .config (modeCode .line) 0 0 true :: [] ∧
    ({ fresh with stimuli := [.config 0 4 0 false] } : State).stimuli = .config (modeCode .single) 4 0 false :: [] := by decide
theorem witness_ResetAbandonsTheExchange :
    ({ busy .readTemp .wait 1 with stimuli := [.rst] } : State).stimuli = .rst :: [] := rfl

/-! A step that answers a next state, from states of each kind. -/

theorem witness_StateMovesFollowTheTable :
    (∃ t, step { busy .readTemp .close 2 with stimuli := [.fsm] } = .next t) ∧
    nextMove { busy .readTemp .close 2 with stimuli := [.fsm] } ≠ .rst := ⟨⟨_, rfl⟩, by decide⟩
theorem witness_StepKeepsTheInvariant : Inv { busy .readTemp .close 2 with stimuli := [.fsm] } ∧
    ∃ t, step { busy .readTemp .close 2 with stimuli := [.fsm] } = .next t :=
  ⟨inv_of_env _ none [.fsm] [] (inv_busy .readTemp (by decide) .close (by decide) 2 (by decide)), _, rfl⟩
theorem witness_InvariantStatesNeverStop : Inv (busy .writeEmi .send 0) := inv_busy .writeEmi (by decide) .send (by decide) 0 (by decide)
theorem witness_StepKeepsMemoryCanonical : (busy .readTemp .wait 7).rb.wf = true ∧
    ∃ t, step { busy .readTemp .wait 7 with stimuli := [.rx 9] } = .next t := ⟨by decide, _, rfl⟩
theorem witness_OnlyTheReceivePathWritesTheBuffer : (busy .readTemp .wait 7).rb.wf = true ∧
    (∃ t, step { busy .readTemp .wait 7 with stimuli := [.rx 9] } = .next t) ∧
    nextMove { busy .readTemp .wait 7 with stimuli := [.rx 9] } ≠ .rst := ⟨by decide, ⟨_, rfl⟩, by decide⟩
/-- While READY; and a configuration from UNCONFIGURED that changes a register. -/
theorem witness_ConfigurationIsImmutable :
    ((∃ t, step (single 1) = .next t) ∧ (single 1).cfgStatus = .ready ∧ nextMove (single 1) ≠ .rst) ∧
    ∃ t, step { fresh with stimuli := [.config 0 4 0 true] } = .next t ∧
      nextMove { fresh with stimuli := [.config 0 4 0 true] } ≠ .rst ∧
      (t.cfgMode, t.cfgAddr, t.cfgAmask) ≠ (fresh.cfgMode, fresh.cfgAddr, fresh.cfgAmask) :=
  ⟨⟨⟨_, rfl⟩, by decide⟩, _, rfl, by decide, by decide⟩
theorem witness_ConfigErrorIsSticky : ∃ s t : State, s.cfgStatus = .configError ∧ step s = .next t ∧ nextMove s ≠ .rst ∧ s.st = .idle ∧
    nextMove s = .fsm ∧ s.reqPort = some ⟨0, 0⟩ :=
  ⟨{ fresh with cfgStatus := .configError, reqPort := some ⟨0, 0⟩ }, _, rfl, rfl, by decide, rfl, rfl, rfl⟩
theorem witness_LineSeesOnlyFrameBytes : ∃ t, step { busy .readTemp .send 0 with stimuli := [.txReady] } = .next t ∧
    t.lineLog = [.tx 0xB1] := ⟨_, rfl, by decide⟩
theorem witness_ResultHoldsUntilTheNextAccept : ∃ t, step { busy .readTemp .close 2 with stimuli := [.fsm] } = .next t ∧
    resultRegs t ≠ resultRegs { busy .readTemp .close 2 with stimuli := [.fsm] } := ⟨_, rfl, by decide⟩
/-- One byte too many, by the count and by the overflow flag; and the step that closes. -/
theorem witness_OverlongRepliesNeverComplete :
    (∃ t, ExchangeInv (busy .readTemp .wait 3) ∧ (busy .readTemp .wait 3).exp.toNat < (busy .readTemp .wait 3).rlen.toNat ∧
      step (busy .readTemp .wait 3) = .next t ∧ nextMove (busy .readTemp .wait 3) ≠ .rst) ∧
    (∃ t, ExchangeInv (busy .readTemp .close 3) ∧ (busy .readTemp .close 3).exp.toNat < (busy .readTemp .close 3).rlen.toNat ∧
      step (busy .readTemp .close 3) = .next t ∧ t.st = .idle) ∧
    ExchangeInv { busy .readTemp .sleep 8 with rovf := true } :=
  ⟨⟨_, (inv_busy .readTemp (by decide) .wait (by decide) 3 (by decide)).exchange, by decide, rfl, by decide⟩,
    ⟨_, (inv_busy .readTemp (by decide) .close (by decide) 3 (by decide)).exchange, by decide, rfl, rfl⟩,
    ⟨by decide, by decide, by decide, by decide, fun _ => ⟨0, by decide, by decide⟩, by decide⟩⟩
/-- A reply of two bytes and one of eight, then one more. -/
theorem witness_LateByteTurnsSuccessIntoFailure : ∃ s t : State,
    (s.st = .close ∧ s.rxEn = true ∧ complete s = true ∧ s.exp.toNat ≤ 8 ∧ s.stimuli = .rx 9 :: .fsm :: []) ∧
    (t.st = .close ∧ t.rxEn = true ∧ complete t = true ∧ t.exp.toNat ≤ 8 ∧ t.stimuli = .rx 9 :: .fsm :: []) :=
  ⟨{ busy .readTemp .close 2 with stimuli := [.rx 9, .fsm] }, { busy .readTempLine .close 8 with exp := 8, stimuli := [.rx 9, .fsm] },
    by decide, by decide⟩
/-- The check after 33 sleeps and after 34, by the deadline's arithmetic of R210. -/
theorem witness_DeadlineAfterKPolls_check (j : Nat) (_ : j = 33 ∨ j = 34) : ∃ s : State, s.st = .wait ∧ s.stimuli = .fsm :: [] ∧
    complete s = false ∧ 1 ≤ s.params.pollMs ∧ s.elapsed = j * s.params.pollMs :=
  ⟨{ busy .readTemp .wait 1 with elapsed := j * 30, stimuli := [.fsm] }, rfl, rfl, rfl, (by decide : 1 ≤ 30), rfl⟩
theorem witness_DeadlineAfterKPolls : 1 ≤ ex.pollMs ∧ maxSleeps ex = 34 ∧ maxSleeps { ex with timeoutMs := 0 } = 0 ∧
    Inv (busy .readTemp .wait 0) ∧ (busy .readTemp .wait 0).st = .wait ∧
    Inv (busy .readTemp .sleep 0) ∧ (busy .readTemp .sleep 0).st = .sleep :=
  ⟨by decide, by decide, by decide, inv_busy .readTemp (by decide) .wait (by decide) 0 (by decide), rfl,
    inv_busy .readTemp (by decide) .sleep (by decide) 0 (by decide), rfl⟩
/-- A request that is taken; an enabled move; one that is not. -/
theorem witness_EveryEnabledStepComesCloser :
    (∃ t, (single 1).st = .idle ∧ exec (.readTemp 0) (single 1) = .next t ∧ t.st = .opening) ∧
    (∃ t, Inv (busy .readTemp .wait 0) ∧ (busy .readTemp .wait 0).st ≠ .idle ∧ step (busy .readTemp .wait 0) = .next t ∧
      nextMove (busy .readTemp .wait 0) ≠ .rst ∧ enables (nextMove (busy .readTemp .wait 0)) .wait = true) ∧
    ∃ t, Inv (busy .readTemp .sleep 0) ∧ (busy .readTemp .sleep 0).st ≠ .idle ∧ step (busy .readTemp .sleep 0) = .next t ∧
      nextMove (busy .readTemp .sleep 0) ≠ .rst ∧ enables (nextMove (busy .readTemp .sleep 0)) .sleep = false :=
  ⟨⟨_, rfl, rfl, rfl⟩, ⟨_, inv_busy .readTemp (by decide) .wait (by decide) 0 (by decide), by decide, rfl, by decide, by decide⟩,
    _, inv_busy .readTemp (by decide) .sleep (by decide) 0 (by decide), by decide, rfl, by decide, by decide⟩

/-- A stretch in which every agent moves. -/
def round : List Stimulus := [.tick, .rx 9, .openAns true, .txReady, .fsm]

theorem fair_round : FairRound round := ⟨⟨true, by decide⟩, by decide, by decide, by decide⟩

/-- From WAIT, with as many rounds as FSM steps are left; and from IDLE with none. -/
theorem witness_FairExchangesReturnToIdle :
    (∃ s : State, Inv s ∧ s.st = .wait ∧ s.stimuli = (List.replicate 70 round).flatten ++ [] ∧
      (∀ r ∈ List.replicate 70 round, FairRound r) ∧ fsmStepsLeft s ≤ (List.replicate 70 round).length) ∧
    Inv (single 1) ∧ (single 1).stimuli = ([] : List (List Stimulus)).flatten ++ [] ∧ fsmStepsLeft (single 1) ≤ 0 :=
  ⟨⟨{ busy .readTemp .wait 0 with stimuli := (List.replicate 70 round).flatten ++ [] },
    inv_of_env _ none _ [] (inv_busy .readTemp (by decide) .wait (by decide) 0 (by decide)), rfl, rfl,
    fun r h => by rw [List.eq_of_mem_replicate h]; exact fair_round, by rw [List.length_replicate]; decide⟩,
    inv_single 1 (by decide), rfl, by decide⟩

/-- A read; a write whose echo differs, and one whose echo matches; the broadcast read of one address and of four. -/
theorem witness_PromptExchangeDeliversTheReply :
    (∀ i : Instr, i = .readTemp 0 ∨ i = .writeEmi 0x03B6 → ∃ s : State, Inv s ∧ s.st = .idle ∧ s.cfgStatus = .ready ∧
      Belongs i.cmd s.cfgMode ∧ s.reqPort = some (encode i) ∧ ([0x04, 0xD2] : List Byte).length = expLen s.cfgAmask i.cmd ∧
      s.stimuli = promptSchedule (frameLen (formatOf i.cmd)).toNat [0x04, 0xD2] ++ []) ∧
    (∃ s : State, Inv s ∧ s.st = .idle ∧ s.cfgStatus = .ready ∧ Belongs (Instr.writeEmi 0x03B6).cmd s.cfgMode ∧
      s.reqPort = some (encode (.writeEmi 0x03B6)) ∧ ([0x03, 0xB6] : List Byte).length = expLen s.cfgAmask .writeEmi ∧
      s.stimuli = promptSchedule 5 [0x03, 0xB6] ++ [] ∧ [0x03, 0xB6] = expectedEcho s.params.echoOrder 0x03B6) ∧
    (∀ p : BitVec 4 × List Byte, p = (1, [0x03, 0xE8]) ∨ p = (15, [1, 2, 3, 4, 5, 6, 7, 8]) → ∃ s : State, Inv s ∧ s.st = .idle ∧
      s.cfgStatus = .ready ∧ Belongs (Instr.readTempLine 0).cmd s.cfgMode ∧ s.reqPort = some (encode (.readTempLine 0)) ∧
      p.2.length = expLen s.cfgAmask .readTempLine ∧ s.stimuli = promptSchedule 4 p.2 ++ []) := by
  refine ⟨fun i hi => ⟨_, inv_of_env _ (some (encode i)) (promptSchedule (frameLen (formatOf i.cmd)).toNat [0x04, 0xD2] ++ []) []
    (inv_single 1 (by decide)), rfl, rfl, ?_, rfl, ?_, rfl⟩,
    ⟨_, inv_of_env _ (some (encode (.writeEmi 0x03B6))) (promptSchedule 5 [0x03, 0xB6] ++ []) [] (inv_single 1 (by decide)), rfl, rfl,
      .inl ⟨rfl, by decide⟩, rfl, rfl, rfl, by decide⟩, fun p hp => ?_⟩
  · rcases hi with rfl | rfl <;> exact .inl ⟨rfl, by decide⟩
  · rcases hi with rfl | rfl <;> rfl
  · refine ⟨_, inv_of_env _ (some (encode (.readTempLine 0))) (promptSchedule 4 p.2 ++ []) []
      (inv_line p.1 (by rcases hp with rfl | rfl <;> decide)), rfl, rfl, .inr ⟨rfl, rfl⟩, rfl, ?_, rfl⟩
    rcases hp with rfl | rfl <;> decide
theorem witness_SilentExchangeFailsAfterKSleeps : ∃ s : State, Inv s ∧ s.st = .idle ∧ s.cfgStatus = .ready ∧
    Belongs (Instr.readSerial 0).cmd s.cfgMode ∧ s.reqPort = some (encode (.readSerial 0)) ∧
    s.stimuli = silentSchedule (frameLen (formatOf (Instr.readSerial 0).cmd)).toNat (maxSleeps s.params) ++ [] :=
  ⟨_, inv_of_env _ (some (encode (.readSerial 0))) (silentSchedule 2 34 ++ []) [] (inv_single 1 (by decide)), rfl, rfl,
    .inl ⟨rfl, by decide⟩, rfl, rfl⟩

theorem witness_ChecksumLaws : ([1, 2, 3] : List Byte).Perm [3, 1, 2] := by decide
theorem witness_IntegersAreBigEndian : ([0x04, 0xD2] : List Byte).length = 2 ∧ ([1, 2, 3] : List Byte).length = 3 := by decide
theorem witness_TemperatureDecodes : ([1] : List Byte).length ≠ 2 ∧ ([1, 2, 3] : List Byte).length ≠ 2 := by decide
theorem witness_RatioSerialFirmwareDecode : ([1] : List Byte).length ≠ 2 ∧ ([1, 2, 3] : List Byte).length ≠ 2 ∧
    ([1, 2] : List Byte).length ≠ 3 ∧ ([1, 2, 3, 4] : List Byte).length ≠ 3 := by decide
theorem witness_EchoComparesThePayload : ∃ s t : State, s.params.echoOrder = .same ∧ t.params.echoOrder = .reversed :=
  ⟨single 1, { single 1 with params := { ex with echoOrder := .reversed } }, rfl, rfl⟩
/-- With {2,4}: LINE_CNT is 2, so 1 and 2 have a chunk, 3 and 4 have none, 0 and 5 are no addresses; with four addresses 4 has one. -/
theorem witness_LineChunksGoToConsecutiveAddresses :
    let s := answeredLine 0b1010 [0x03, 0xE8, 0x04, 0xD2]
    s.resValid = true ∧ s.resKind = .ok ∧ s.resCmd = .readTempLine ∧ lineCnt s.cfgAmask = 2 ∧
    (1 ≤ 1 ∧ 1 ≤ lineCnt s.cfgAmask) ∧ (1 ≤ 2 ∧ 2 ≤ lineCnt s.cfgAmask) ∧ (lineCnt s.cfgAmask < 3 ∧ 3 ≤ 4) ∧
    (lineCnt s.cfgAmask < 4 ∧ 4 ≤ 4) ∧ 4 < 5 ∧ (1 ≤ 4 ∧ 4 ≤ lineCnt (answeredLine 15 [1, 2, 3, 4, 5, 6, 7, 8]).cfgAmask) := by decide
theorem witness_OutputsNeedAnOkResult : (single 1).resValid = false ∧
    ({ answered .readTemp [4, 0xD2] with resKind := .fail } : State).resKind ≠ .ok ∧ (answered .readTemp [4, 0xD2]).resCmd ≠ .readSerial ∧
    (answered .readSerial [1, 2, 3]).resCmd ≠ .readTemp := by decide
/-- One result of each kind of output, the line's at one chunk and at four. -/
theorem witness_OkResultsAlwaysDecode :
    (∀ c, c = .readTemp ∨ c = .readFw ∨ c = .readEmi ∨ c = .readTrans ∨ c = .writeEmi →
      Inv (answered c [4, 0xD2]) ∧ (answered c [4, 0xD2]).resValid = true ∧ (answered c [4, 0xD2]).resKind = .ok ∧
      (answered c [4, 0xD2]).resCmd = c) ∧
    (Inv (answered .readSerial [1, 2, 3]) ∧ (answered .readSerial [1, 2, 3]).resValid = true ∧
      (answered .readSerial [1, 2, 3]).resKind = .ok) ∧
    (Inv (answeredLine 1 [3, 0xE8]) ∧ (answeredLine 1 [3, 0xE8]).resValid = true ∧ (answeredLine 1 [3, 0xE8]).resKind = .ok) ∧
    Inv (answeredLine 15 [1, 2, 3, 4, 5, 6, 7, 8]) := by
  refine ⟨fun c hc => ⟨inv_answered c _ ?_ ?_ (by decide) (by decide), rfl, rfl, rfl⟩,
    ⟨inv_answered .readSerial _ rfl (by decide) (by decide) (by decide), rfl, rfl⟩,
    ⟨inv_answered_line 1 _ (by decide) (by decide) (by decide) (by decide), rfl, rfl⟩,
    inv_answered_line 15 _ (by decide) (by decide) (by decide) (by decide)⟩ <;>
  rcases hc with rfl | rfl | rfl | rfl | rfl <;> rfl
theorem witness_PortsFollowTheRegisters : Inv (busy .writeEmi .send 0) ∧ (busy .writeEmi .send 0).st = .send ∧ 0 < 8 ∧ 7 < 8 :=
  ⟨inv_busy .writeEmi (by decide) .send (by decide) 0 (by decide), rfl, by decide, by decide⟩
/-- A rounding that leaves integers alone, and the ends of the range. -/
theorem witness_RatioRoundTrip : (∀ n : ℤ, (fun v : ℚ => ⌊v⌋) (n : ℚ) = n) ∧ 0 ≤ 1100 ∧ 1100 ≤ 1100 := ⟨fun n => Int.floor_intCast n, by decide, by decide⟩
theorem witness_WrittenRequestsAreWellFormed : parseRequest (fun _ => 0) ["WRITE_EMI".toList, "q=950".toList] = some ⟨5, 950⟩ ∧
    parseRequest (fun _ => 0) ["READ_FW".toList] = some ⟨3, 0⟩ := by decide
theorem witness_ModeBitSelectsTheMode : ∃ t, nextMove { fresh with stimuli := [.config 1 0 10 true] } = .config 1 0 10 true ∧
    fresh.cfgStatus = .unconfigured ∧ step { fresh with stimuli := [.config 1 0 10 true] } = .next t ∧ t.cfgStatus = .ready :=
  ⟨_, rfl, rfl, rfl, rfl⟩

end Sys2Proof.Tests
end

section
/-! PROOFS. The family 00_scope.md: the step that runs the request at the port (R14, R201). -/

namespace Sys2Proof.Machine

/-! ### The schedule: which move is next, and what is left of it -/

theorem nextMove_of_nil {s : State} (h : s.stimuli = []) : nextMove s = .fsm := by
  simp only [nextMove, h]

theorem nextMove_of_cons {s : State} {m : Stimulus} {rest : List Stimulus} (h : s.stimuli = m :: rest) :
    nextMove s = m := by
  simp only [nextMove, h]

theorem State.dropMove_of_nil {s : State} (h : s.stimuli = []) : s.dropMove = s := by
  cases s; cases h; rfl

theorem State.dropMove_of_cons {s : State} {m : Stimulus} {rest : List Stimulus} (h : s.stimuli = m :: rest) :
    s.dropMove = { s with stimuli := rest } := by
  simp only [State.dropMove, h, List.tail_cons]

/-! ### The step -/

/-- ACCEPT is the one thing a step can do when the FSM moves in IDLE with a request at the port (R201). -/
theorem step_of_fsm_idle_presented {s : State} {r : Request} (hmove : nextMove s = .fsm) (hidle : s.st = .idle)
    (hport : s.reqPort = some r) : step s = exec (decode r) s.dropMove.takeRequest := by
  rcases step_cases s with ⟨r', _, _, hport', hstep⟩ | ⟨hnone, _⟩
  · obtain rfl : r = r' := Option.some.inj (hport.symm.trans hport')
    exact hstep
  · exact absurd ⟨hmove, hidle, Option.isSome_of_mem hport⟩ hnone

/-- Settles O4, by the two ways the FSM comes to move: it heads the schedule, or the schedule is empty (log 1). -/
theorem stepRunsTheDecodedRequest : Obligations.StepRunsTheDecodedRequest := by
  rintro s r _ hidle hport rfl
  refine ⟨fun rest hhead => ?_, fun hempty => ?_⟩
  · rw [step_of_fsm_idle_presented (nextMove_of_cons hhead) hidle hport, State.dropMove_of_cons hhead]
    rfl
  · rw [step_of_fsm_idle_presented (nextMove_of_nil hempty) hidle hport, State.dropMove_of_nil hempty]
    rfl

end Sys2Proof.Machine
end

section
/-! PROOFS. The family 10_state.md: the configuration registers (R22 to R25, R38), the line's derived values (R26), the values after
reset (R37). -/

namespace Sys2Proof.Machine

open Safety

/-! ### The configuration registers and the parameters through a step -/

theorem cfgRegs_eq_iff {s : State} {m : CfgMode} {a : BitVec 3} {k : BitVec 4} {e : CfgStatus} {c : CfgCause} :
    cfgRegs s = (m, a, k, e, c) ↔
      s.cfgMode = m ∧ s.cfgAddr = a ∧ s.cfgAmask = k ∧ s.cfgStatus = e ∧ s.cfgCause = c := by
  simp only [cfgRegs, Prod.mk.injEq]

/-- Reset keeps the parameters (log 19). -/
theorem resetStep_params {s t : State} (h : resetStep s = .next t) : t.params = s.params := by
  cases h
  rfl

/-- No step writes the parameters (log 15). -/
theorem step_params {s t : State} (h : step s = .next t) : t.params = s.params := by
  cases step_moved s t h
  case reset move answer => rw [resetStep_params answer, State.dropMove_params]
  all_goals simp

/-- What a step other than `rst` does to the configuration registers (R38, R271): nothing, or a configuration in UNCONFIGURED either
fails and writes CFG_STATUS and CFG_CAUSE alone, or succeeds and writes the mode, that mode's register and CFG_STATUS. -/
theorem step_cfgRegs_cases {s t : State} (h : step s = .next t) (hrst : nextMove s ≠ .rst) :
    cfgRegs t = cfgRegs s ∨
    (∃ m a k ok c, nextMove s = .config (modeCode m) a k ok ∧ s.cfgStatus = .unconfigured ∧
      cfgRegs t = (s.cfgMode, s.cfgAddr, s.cfgAmask, .configError, c)) ∨
    (∃ m a k, nextMove s = .config (modeCode m) a k true ∧ s.cfgStatus = .unconfigured ∧
      cfgRegs t = cfgRegs (s.setConfig m a k)) := by
  cases step_moved s t h
  case configRejected m a k ok c move fresh st cause => exact .inr (.inl ⟨m, a, k, ok, c, move, fresh, by simp [cfgRegs]⟩)
  case portUnusable m a k move fresh st valid => exact .inr (.inl ⟨m, a, k, false, .portUnusable, move, fresh, by simp [cfgRegs]⟩)
  case configured m a k move fresh st valid => exact .inr (.inr ⟨m, a, k, move, fresh, by simp [cfgRegs]⟩)
  case reset move answer => exact absurd move hrst
  all_goals exact .inl (by simp [cfgRegs])

/-- A configured machine keeps its configuration, and its status, through every step but `rst` (R38). -/
theorem step_cfgRegs_of_configured {s t : State} (h : step s = .next t) (hrst : nextMove s ≠ .rst)
    (hset : s.cfgStatus ≠ .unconfigured) : cfgRegs t = cfgRegs s := by
  rcases step_cfgRegs_cases h hrst with hsame | ⟨_, _, _, _, _, _, hfresh, _⟩ | ⟨_, _, _, _, hfresh, _⟩
  · exact hsame
  · exact absurd hfresh hset
  · exact absurd hfresh hset

/-- Settles O32, by the three things a step can do to the configuration registers. -/
theorem configurationIsImmutable : Obligations.ConfigurationIsImmutable := by
  intro s t h
  refine ⟨step_params h, fun hready hrst => ?_, fun hrst hchange => ?_⟩
  · exact step_cfgRegs_of_configured h hrst (by simp [hready])
  · rcases step_cfgRegs_cases h hrst with hregs | ⟨_, _, _, _, _, _, _, hregs⟩ | ⟨m, a, k, hmove, hfresh, hregs⟩
    · obtain ⟨hmode, haddr, hmask, _⟩ := cfgRegs_eq_iff.1 hregs
      exact absurd (by rw [hmode, haddr, hmask]) hchange
    · obtain ⟨hmode, haddr, hmask, _⟩ := cfgRegs_eq_iff.1 hregs
      exact absurd (by rw [hmode, haddr, hmask]) hchange
    · obtain ⟨_, _, _, hstatus, _⟩ := cfgRegs_eq_iff.1 hregs
      exact ⟨⟨_, a, k, true, hmove⟩, hfresh, hstatus⟩

/-- Settles O57: of the three things a step can do to the configuration registers, only a successful configuration leads from
UNCONFIGURED to READY. -/
theorem modeBitSelectsTheMode : Obligations.ModeBitSelectsTheMode := by
  refine ⟨rfl, rfl, modeCode_modeOfCode, modeOfCode_modeCode, fun s t b a k ok hmove hfresh h hready => ?_⟩
  rcases step_cfgRegs_cases h (by simp [hmove]) with hregs | ⟨_, _, _, _, _, _, _, hregs⟩ | ⟨m, _, _, hmove', _, hregs⟩
  · obtain ⟨_, _, _, hstatus, _⟩ := cfgRegs_eq_iff.1 hregs
    simp [hstatus, hfresh] at hready
  · obtain ⟨_, _, _, hstatus, _⟩ := cfgRegs_eq_iff.1 hregs
    simp [hstatus] at hready
  · obtain ⟨hmode, _⟩ := cfgRegs_eq_iff.1 hregs
    rw [hmove, Stimulus.config.injEq] at hmove'
    obtain ⟨hb, _⟩ := hmove'
    rw [hmode, hb, State.setConfig_cfgMode]

/-! ### The derived values of a mask (R26) -/

/-- LINE_CNT as a count of the bits that are set. -/
theorem lineCnt_eq_length_filter (m : BitVec 4) :
    lineCnt m = ((List.range 4).filter (fun k => m.getLsbD k)).length := by
  revert m; decide

/-- A mask other than 0 has a bit set. -/
theorem lineCnt_pos {m : BitVec 4} (hm : m ≠ 0) : 1 ≤ lineCnt m := by
  revert m; decide

/-- The index of a mask's highest bit is the binary logarithm of the mask. -/
theorem msbIndex4_eq_log2 {m : BitVec 4} (hm : m ≠ 0) : msbIndex4 m = some (Nat.log2 m.toNat) := by
  revert m; decide

theorem lineMax_eq_log2 {m : BitVec 4} (hm : m ≠ 0) : lineMax m = BitVec.ofNat 8 (Nat.log2 m.toNat + 1) := by
  simp only [lineMax, msbIndex4_eq_log2 hm]

theorem toNat_ne_zero_of_ne_zero {w : Nat} {m : BitVec w} (hm : m ≠ 0) : m.toNat ≠ 0 := by
  simpa [BitVec.toNat_eq] using hm

theorem log2_toNat_lt {m : BitVec 4} (hm : m ≠ 0) : Nat.log2 m.toNat < 4 :=
  (Nat.log2_lt (toNat_ne_zero_of_ne_zero hm)).2 m.isLt

/-- LINE_MAX as a number: the byte holds it without a carry. -/
theorem lineMax_toNat {m : BitVec 4} (hm : m ≠ 0) : (lineMax m).toNat = Nat.log2 m.toNat + 1 := by
  have hlt := log2_toNat_lt hm
  rw [lineMax_eq_log2 hm, BitVec.toNat_ofNat]
  omega

/-- The address LINE_MAX is configured. -/
theorem getLsbD_log2 {w : Nat} {m : BitVec w} (hm : m ≠ 0) : m.getLsbD (Nat.log2 m.toNat) = true :=
  Nat.testBit_log2 (toNat_ne_zero_of_ne_zero hm)

/-- No address above LINE_MAX is configured. -/
theorem getLsbD_eq_false_of_log2_lt {w : Nat} {m : BitVec w} {k : Nat} (hk : Nat.log2 m.toNat < k) :
    m.getLsbD k = false :=
  Nat.testBit_lt_two_pow (Nat.lt_of_lt_of_le Nat.lt_log2_self (Nat.pow_le_pow_right Nat.two_pos hk))

/-- Settles O14, through the binary logarithm of the mask: LINE_MAX is one more than it, and it is the index of the highest bit. -/
theorem lineCountAndMaximum : Obligations.LineCountAndMaximum := by
  intro m hm
  have hlt := log2_toNat_lt hm
  rw [lineMax_toNat hm, Nat.add_sub_cancel]
  exact ⟨lineCnt_eq_length_filter m, lineCnt_pos hm, lineCnt_le m, lineMax_eq_log2 hm, Nat.le_add_left 1 _, hlt,
    getLsbD_log2 hm, fun _ hk => getLsbD_eq_false_of_log2_lt hk⟩

/-! ### The state after reset (R37) -/

/-- Settles O25: each of R37's values is the field `State.reset` gives. -/
theorem resetLeavesTheStatedValues : Obligations.ResetLeavesTheStatedValues :=
  ⟨rfl, rfl, rfl, rfl, rfl, rfl, rfl, rfl⟩

end Sys2Proof.Machine
end

section
/-! PROOFS. The family 20_memory.md: what a step does to the response buffer's bytes (R50, R160, R163) and to the line's record (R56). -/

namespace Sys2Proof.Machine

open Safety

/-! ### The response buffer through a step -/

/-- Reset empties the buffer's bytes (log 8). -/
theorem resetStep_rb {s t : State} (h : resetStep s = .next t) : t.rb = State.reset.rb := by
  cases h
  rfl

/-- What a step does to the buffer's bytes: nothing, the store at RLEN of a byte received inside the window (R160), or reset. -/
theorem step_rb_cases {s t : State} (h : step s = .next t) :
    t.rb = s.rb ∨
    (∃ (b : Byte) (hlen : s.rlen.toNat < 8), nextMove s = .rx b ∧ s.rxEn = true ∧ t.rb = s.rb.write ⟨s.rlen.toNat, hlen⟩ b) ∨
    (nextMove s = .rst ∧ t.rb = State.reset.rb) := by
  cases step_moved s t h
  case stored b hlen move window => exact .inr (.inl ⟨b, hlen, move, window, by simp⟩)
  case reset move answer => exact .inr (.inr ⟨move, resetStep_rb answer⟩)
  all_goals exact .inl (by simp)

/-- Settles O30: the buffer a step leaves is the old one, one with a byte stored, or the one of reset. -/
theorem stepKeepsMemoryCanonical : Obligations.StepKeepsMemoryCanonical := by
  intro s t hwf h
  rcases step_rb_cases h with hsame | ⟨b, hlen, _, _, hstore⟩ | ⟨_, hreset⟩
  · rw [hsame]
    exact hwf
  · rw [hstore]
    exact Memory.write_wf s.rb _ b hwf
  · rw [hreset]
    exact Memory.reset_wf

/-- Settles O31: but for reset, the receive append is the one way a step can change the buffer's bytes. -/
theorem onlyTheReceivePathWritesTheBuffer : Obligations.OnlyTheReceivePathWritesTheBuffer := by
  intro s t hwf h hrst
  rcases step_rb_cases h with hsame | ⟨b, hlen, hmove, hwindow, hstore⟩ | ⟨hmove, _⟩
  · exact .inl fun a => by rw [hsame]
  · refine .inr ⟨b, hmove, hwindow, hlen, fun a => ?_⟩
    rw [hstore]
    exact Memory.read_write s.rb ⟨s.rlen.toNat, hlen⟩ b hwf a
  · exact absurd hmove hrst

/-! ### The line's record through a step -/

/-- What the line sees when LINE_OPEN goes from `was` to `now`: the change, and nothing where there is none (R56, R203). -/
def lineEdge (was now : Bool) : List LineAct :=
  if was = now then [] else if now then [.raiseOpen] else [.lowerOpen]

theorem tx_notMem_lineEdge (b : Byte) (was now : Bool) : .tx b ∉ lineEdge was now := by
  cases was <;> cases now <;> simp [lineEdge]

theorem raiseOpen_notMem_lineEdge_false (was : Bool) : .raiseOpen ∉ lineEdge was false := by
  cases was <;> simp [lineEdge]

theorem State.setLineOpen_lineLog_eq_lineEdge (s : State) (v : Bool) :
    (s.setLineOpen v).lineLog = s.lineLog ++ lineEdge s.lineOpen v := rfl

/-- The line opened and closed again, as by a probe (R273) or a failed open (R203): it always sees the fall, and the rise where it was
closed. -/
theorem State.setLineOpen_true_false_lineLog (s : State) :
    ((s.setLineOpen true).setLineOpen false).lineLog = s.lineLog ++ (lineEdge s.lineOpen true ++ [.lowerOpen]) :=
  List.append_assoc _ _ _

/-- Reset closes the line and keeps the rest of its record (R270, log 19). -/
theorem resetStep_lineLog {s t : State} (h : resetStep s = .next t) : t.lineLog = s.lineLog ++ lineEdge s.lineOpen false := by
  cases h
  rfl

/-- The next move may raise the open request: the line answers in OPEN (R203), or a configuration passes validation (R272, R273). -/
def MayOpenLine (s : State) : Prop :=
  (s.st = .opening ∧ ∃ ok, nextMove s = .openAns ok) ∨
    ∃ m a k, (∃ ok, nextMove s = .config (modeCode m) a k ok) ∧ m.Valid a k

/-- What the line sees of a step: nothing, the line closed, the line opened (and, on a failed open or a probe, closed again), or the
byte FRAME[TXI]. -/
theorem step_lineLog_cases {s t : State} (h : step s = .next t) :
    t.lineLog = s.lineLog ∨
    t.lineLog = s.lineLog ++ lineEdge s.lineOpen false ∨
    (MayOpenLine s ∧ ∃ fall ⊆ [.lowerOpen], t.lineLog = s.lineLog ++ (lineEdge s.lineOpen true ++ fall)) ∨
    (∃ b, s.st = .send ∧ nextMove s = .txReady ∧ s.frame.get s.txi.toNat = some b ∧ t.lineLog = s.lineLog ++ [.tx b]) := by
  cases step_moved s t h
  case closed move st => exact .inr (.inl (State.setLineOpen_lineLog_eq_lineEdge s.dropMove false))
  case reset move answer => exact .inr (.inl (resetStep_lineLog (s := s.dropMove) answer))
  case opened move st =>
    refine .inr (.inr (.inl ⟨.inl ⟨st, true, move⟩, [], List.nil_subset _, ?_⟩))
    rw [List.append_nil]
    exact State.setLineOpen_lineLog_eq_lineEdge s.dropMove true
  case openFailed move st =>
    exact .inr (.inr (.inl ⟨.inl ⟨st, false, move⟩, _, List.Subset.refl _, State.setLineOpen_true_false_lineLog s.dropMove⟩))
  case portUnusable m a k move fresh st valid =>
    exact .inr (.inr (.inl ⟨.inr ⟨m, a, k, ⟨false, move⟩, valid⟩, _, List.Subset.refl _,
      State.setLineOpen_true_false_lineLog s.dropMove⟩))
  case configured m a k move fresh st valid =>
    exact .inr (.inr (.inl ⟨.inr ⟨m, a, k, ⟨true, move⟩, valid⟩, _, List.Subset.refl _,
      State.setLineOpen_true_false_lineLog s.dropMove⟩))
  case sent b move st byte last => exact .inr (.inr (.inr ⟨b, st, move, byte, by simp⟩))
  case sentLast b move st byte last => exact .inr (.inr (.inr ⟨b, st, move, byte, by simp⟩))
  all_goals exact .inl (by simp)

/-- Settles O34, by the four things the line can see of a step: only a byte sent is a byte, and only an opening raises. -/
theorem lineSeesOnlyFrameBytes : Obligations.LineSeesOnlyFrameBytes := by
  intro s t h
  rcases step_lineLog_cases h with hsame | hclose | ⟨hopen, fall, hfall, hlog⟩ | ⟨b, hst, hmove, hbyte, hlog⟩
  · exact ⟨[], by simp [hsame], by simp, by simp⟩
  · exact ⟨_, hclose, fun b hb => absurd hb (tx_notMem_lineEdge b _ _),
      fun hr => absurd hr (raiseOpen_notMem_lineEdge_false _)⟩
  · refine ⟨_, hlog, fun b hb => ?_, fun _ => hopen⟩
    rcases List.mem_append.1 hb with hedge | hlow
    · exact absurd hedge (tx_notMem_lineEdge b _ _)
    · simpa using hfall hlow
  · refine ⟨[.tx b], hlog, fun b' hb' => ?_, by simp⟩
    obtain rfl : b' = b := by simpa using hb'
    exact ⟨hst, hmove, hbyte, rfl⟩

end Sys2Proof.Machine
end

section
/-! PROOFS. The family 30_encoding.md, its codes: the request port (R82 to R84), the byte image of a request and the word placed by
`withFetchWord` (logs 4 and 6). -/

namespace Sys2Proof

/-! ### The request port -/

/-- The round trip of each row of the command map (R82), for any request. -/
theorem decode_encode (i : Instr) : decode (encode i) = i := by
  cases i with
  | readTemp q => exact Laws.PortRoundTrip.readTemp q
  | readTempLine q => exact Laws.PortRoundTrip.readTempLine q
  | readSerial q => exact Laws.PortRoundTrip.readSerial q
  | readFw q => exact Laws.PortRoundTrip.readFw q
  | readEmi q => exact Laws.PortRoundTrip.readEmi q
  | writeEmi q => exact Laws.PortRoundTrip.writeEmi q
  | readTrans q => exact Laws.PortRoundTrip.readTrans q
  | writeTrans q => exact Laws.PortRoundTrip.writeTrans q

theorem decode_cmd_code (r : Request) : (decode r).cmd.code = r.cmd := by
  rw [decode_cmd, Cmd.code_ofCode]

theorem encode_decode (r : Request) : encode (decode r) = r := by
  simp only [encode, decode_cmd_code, decode_q]

theorem decode_eq_iff {r : Request} {i : Instr} : decode r = i ↔ r = encode i :=
  ⟨fun h => h ▸ (encode_decode r).symm, fun h => h ▸ decode_encode i⟩

/-- Settles O3: `decode` and `encode` are inverse to each other. -/
theorem portValuesAndRequestsCorrespond : Obligations.PortValuesAndRequestsCorrespond :=
  ⟨decode_encode, encode_decode, fun r => ⟨decode_cmd_code r, decode_q r⟩⟩

/-! ### The byte image (log 4) -/

/-- Two halves and the word they make up, at any widths. -/
theorem eq_append_iff {m n : Nat} {b : BitVec (m + n)} {hi : BitVec m} {lo : BitVec n} :
    b = hi ++ lo ↔ b.extractLsb' n m = hi ∧ b.extractLsb' 0 n = lo := by
  constructor
  · rintro rfl
    exact ⟨BitVec.extractLsb'_append_eq_left, BitVec.extractLsb'_append_eq_right⟩
  · rintro ⟨rfl, rfl⟩
    rw [BitVec.extractLsb'_append_extractLsb'_eq_extractLsb' (Nat.zero_add n).symm, BitVec.extractLsb'_eq_self]

theorem Request.ofBytes_of_length_ne {bs : List Byte} (h : bs.length ≠ 3) :
    Request.ofBytes bs = .error (.wrongLength bs.length) := by
  unfold Request.ofBytes
  split
  · exact absurd rfl h
  · rfl

theorem decodeBytes_of_length_ne {bs : List Byte} (h : bs.length ≠ 3) :
    decodeBytes bs = .error (.wrongLength bs.length) := by
  simp only [decodeBytes, Request.ofBytes_of_length_ne h]

/-- The bytes of a request are those of the port value that decodes to it. -/
theorem decodeBytes_eq_ok_iff {bs : List Byte} {i : Instr} :
    decodeBytes bs = .ok i ↔ ∃ r, Request.ofBytes bs = .ok r ∧ decode r = i := by
  unfold decodeBytes
  cases Request.ofBytes bs <;> simp

/-- The image of a port value: `req_cmd` under any padding, then `req_q`, low byte first. -/
theorem Request.ofBytes_eq_ok_iff {bs : List Byte} {r : Request} :
    Request.ofBytes bs = .ok r ↔ ∃ pad : BitVec 5, bs = [pad ++ r.cmd, r.q.extractLsb' 0 8, r.q.extractLsb' 8 8] := by
  by_cases hlen : bs.length = 3
  · obtain ⟨b0, b1, b2, rfl⟩ := List.length_eq_three.1 hlen
    obtain ⟨c, q⟩ := r
    calc Request.ofBytes [b0, b1, b2] = .ok ⟨c, q⟩
        ↔ b0.extractLsb' 0 3 = c ∧ q = b2 ++ b1 := by simp [Request.ofBytes, eq_comm]
      _ ↔ (∃ pad : BitVec 5, b0 = pad ++ c) ∧ q.extractLsb' 8 8 = b2 ∧ q.extractLsb' 0 8 = b1 := by
          simp [eq_append_iff (m := 5) (n := 3), eq_append_iff (m := 8) (n := 8)]
      _ ↔ _ := by simp [and_comm, eq_comm]
  · rw [Request.ofBytes_of_length_ne hlen]
    refine iff_of_false (by simp) ?_
    rintro ⟨pad, rfl⟩
    exact hlen rfl

/-- Settles O2: bytes are the image of one port value (with any padding), and that value is the encoding of the request. -/
theorem bytesDecodeExactlyTheirRequests : Obligations.BytesDecodeExactlyTheirRequests := by
  intro bs i
  calc decodeBytes bs = .ok i
      ↔ ∃ r, Request.ofBytes bs = .ok r ∧ r = encode i := by simp only [decodeBytes_eq_ok_iff, decode_eq_iff]
    _ ↔ Request.ofBytes bs = .ok (encode i) := exists_eq_right
    _ ↔ ∃ pad : BitVec 5, bs = encodeBytes pad i := Request.ofBytes_eq_ok_iff

/-- Settles O1: the nine fixed words by evaluation of the decoder, bytes of a wrong number by `Request.ofBytes`. -/
theorem commandWordsDecode : Obligations.CommandWordsDecode :=
  ⟨by decide, by decide, by decide, by decide, by decide, by decide, by decide, by decide, by decide,
    fun _ h => decodeBytes_of_length_ne h⟩

/-- A table word's request is what the port carries for the word's bytes. -/
theorem decodeTableWord_eq_some_iff {nbits w : Nat} {i : Instr} :
    decodeTableWord nbits w = some i ↔ ∃ r, Request.ofBytes (tableBytes nbits w) = .ok r ∧ decode r = i := by
  rw [← decodeBytes_eq_ok_iff]
  unfold decodeTableWord
  cases decodeBytes (tableBytes nbits w) <;> simp

end Sys2Proof

namespace Sys2Proof.Machine

/-! ### The word placed by `withFetchWord` (log 6) -/

theorem State.withFetchWord_of_ok {nbits w : Nat} {r : Request} (h : Request.ofBytes (tableBytes nbits w) = .ok r) (s : State) :
    s.withFetchWord nbits w = { s with reqPort := some r, stimuli := .fsm :: s.stimuli } := by
  simp only [State.withFetchWord, h]

/-- Settles O5: the placed request stands at the port with the FSM's move at the head of the schedule, so O4 runs it. -/
theorem placedWordRunsNext : Obligations.PlacedWordRunsNext := by
  intro s nbits w i hidle hword
  obtain ⟨r, hbytes, hdecode⟩ := decodeTableWord_eq_some_iff.1 hword
  rw [State.withFetchWord_of_ok hbytes]
  obtain ⟨hruns, _⟩ := stepRunsTheDecodedRequest { s with reqPort := some r, stimuli := .fsm :: s.stimuli } r i hidle rfl hdecode
  exact hruns s.stimuli rfl

end Sys2Proof.Machine
end

section
/-! PROOFS. The family 30_encoding.md, its frames: what an admitted request latches, by the three formats of R73 to R75. -/

namespace Sys2Proof.Machine

open Safety

/-! ### An admitted request -/

/-- R201: a request that the configuration admits latches R100's encoding of it. -/
theorem exec_of_admitted {i : Instr} {s : State} (hidle : s.st = .idle) (hready : s.cfgStatus = .ready)
    (hmode : s.cfgMode = modeOf i.cmd) :
    exec i s = .next (s.clearResult.latchRequest i.cmd i.q (encodeFrame i.cmd i.q s)) := by
  have hadm : admitted i.cmd s = true := (admitted_iff i.cmd s).2 ⟨hready, hmode⟩
  rw [exec_eq_accept]
  rcases accept_cases i.cmd i.q (encodeFrame i.cmd i.q s) s with ⟨_, hrefused, _⟩ | ⟨_, _, htaken⟩ | ⟨hbusy, _⟩
  · simp [hadm] at hrefused
  · exact htaken
  · exact absurd hidle hbusy

/-- R201 read backwards: a request leads from IDLE to OPEN only where the configuration admits it. -/
theorem admitted_of_exec_opening {i : Instr} {s t : State} (hidle : s.st = .idle) (h : exec i s = .next t)
    (hopening : t.st = .opening) : s.cfgStatus = .ready ∧ s.cfgMode = modeOf i.cmd := by
  rw [exec_eq_accept] at h
  rcases accept_cases i.cmd i.q (encodeFrame i.cmd i.q s) s with ⟨_, _, hrefused⟩ | ⟨_, hadm, _⟩ | ⟨hbusy, _⟩
  · cases hrefused.symm.trans h
    simp [hidle] at hopening
  · exact (admitted_iff i.cmd s).1 hadm
  · exact absurd hidle hbusy

/-! ### The command map's columns (R82) -/

theorem modeOf_eq_single_iff {c : Cmd} : modeOf c = .single ↔ c ≠ .readTempLine := by
  cases c <;> simp [modeOf]

/-- Only the broadcast frame belongs to LINE mode. -/
theorem modeOf_eq_single_iff_format {c : Cmd} : modeOf c = .single ↔ formatOf c ≠ .line := by
  cases c <;> simp [modeOf, formatOf]

/-- A command goes to one address in SINGLE mode, to the broadcast address in LINE mode (R71). -/
theorem encodeFrame_bytes_head (c : Cmd) (q : Word16) (s : State) :
    (encodeFrame c q s).bytes[0]? = some (addrByte (if c = .readTempLine then Config.bcast else s.cfgAddr)) := by
  cases c <;> rfl

/-- The address byte is a sum without a carry (R71). -/
theorem addrByte_toNat (a : BitVec 3) : (addrByte a).toNat = 0xB0 + a.toNat := by
  revert a; decide

/-- FRAME[0] of an admitted request (R71, R201). -/
theorem frame_f0_of_exec_opening {i : Instr} {s t : State} (hidle : s.st = .idle) (h : exec i s = .next t)
    (hopening : t.st = .opening) :
    t.frame.f0 = addrByte (if i.cmd = .readTempLine then Config.bcast else s.cfgAddr) := by
  obtain ⟨hready, hmode⟩ := admitted_of_exec_opening hidle h hopening
  cases (exec_of_admitted hidle hready hmode).symm.trans h
  simp [FrameRegs.load, encodeFrame_bytes_head]

/-- Settles O13: the address byte's sum, and for a command of SINGLE mode the range that validation gives CFG_ADDR (R272). -/
theorem addressByteNamesTheDevice : Obligations.AddressByteNamesTheDevice := by
  intro i s t hvalid hidle h hopening
  have hf0 := frame_f0_of_exec_opening hidle h hopening
  refine ⟨fun hline => ?_, fun hsingle => ?_⟩
  · rw [hf0, if_pos hline]
    rfl
  · obtain ⟨hready, hmode⟩ := admitted_of_exec_opening hidle h hopening
    have haddr := hvalid hready
    rw [hmode, modeOf_eq_single_iff.2 hsingle] at haddr
    obtain ⟨hmin, hmax⟩ := haddr
    rw [hf0, if_neg hsingle, addrByte_toNat]
    omega

/-! ### The three formats (R70, R73 to R75) -/

/-- The checksum of an F_WRITE frame, over opcode and payload (R74). -/
theorem checksum_three (x y z : Byte) : checksum [x, y, z] = x ^^^ y ^^^ z := by
  simp [checksum_cons, BitVec.xor_assoc]

/-- The checksum of an F_LINE frame, over opcode and LINE_MAX (R75). -/
theorem checksum_two (x y : Byte) : checksum [x, y] = x ^^^ y := by
  simp [checksum_cons]

/-- What a command of format F_READ latches (R73). -/
theorem exec_of_format_read {i : Instr} {s : State} (hformat : formatOf i.cmd = .read) (hidle : s.st = .idle)
    (hready : s.cfgStatus = .ready) (hsingle : s.cfgMode = .single) :
    exec i s = .next (latchedRead s i.cmd i.q (opcOf s.params.opc i.cmd) (BitVec.ofNat 4 (expLen s.cfgAmask i.cmd))) := by
  have hmode : modeOf i.cmd = .single := modeOf_eq_single_iff_format.2 (by simp [hformat])
  rw [exec_of_admitted hidle hready (hsingle.trans hmode.symm)]
  simp only [encodeFrame, hformat]
  rfl

/-- The reply to a command of format F_WRITE is the echo of its payload word (R211). -/
theorem expLen_of_format_write {c : Cmd} (hformat : formatOf c = .write) (m : BitVec 4) : expLen m c = 2 := by
  cases c <;> simp_all [formatOf, expLen, Config.lenRatio]

/-- What a command of format F_WRITE latches (R74). -/
theorem exec_of_format_write {i : Instr} {s : State} (hformat : formatOf i.cmd = .write) (hidle : s.st = .idle)
    (hready : s.cfgStatus = .ready) (hsingle : s.cfgMode = .single) :
    exec i s = .next (latchedWrite s i.cmd i.q (opcOf s.params.opc i.cmd)) := by
  have hmode : modeOf i.cmd = .single := modeOf_eq_single_iff_format.2 (by simp [hformat])
  rw [exec_of_admitted hidle hready (hsingle.trans hmode.symm)]
  simp only [encodeFrame, hformat, expLen_of_format_write hformat, frameWrite, checksum_three]
  rfl

/-- What READ_TEMP_LINE latches (R75). -/
theorem exec_readTempLine (q : Word16) {s : State} (hidle : s.st = .idle) (hready : s.cfgStatus = .ready)
    (hline : s.cfgMode = .line) : exec (.readTempLine q) s = .next (latchedLine s q) := by
  rw [exec_of_admitted (i := .readTempLine q) hidle hready hline]
  simp only [encodeFrame, Instr.cmd, formatOf, frameLine, checksum_two]
  rfl

/-- Settles O6: the five reads are one format, and each row gives its opcode and its reply length. -/
theorem singleReadsLatchTheirFrame : Obligations.SingleReadsLatchTheirFrame := by
  intro q s hidle hready hsingle
  exact ⟨exec_of_format_read rfl hidle hready hsingle, exec_of_format_read rfl hidle hready hsingle,
    exec_of_format_read rfl hidle hready hsingle, exec_of_format_read rfl hidle hready hsingle,
    exec_of_format_read rfl hidle hready hsingle⟩

/-- Settles O7: the two writes are one format. -/
theorem writesLatchTheirFrame : Obligations.WritesLatchTheirFrame := by
  intro q s hidle hready hsingle
  exact ⟨exec_of_format_write rfl hidle hready hsingle, exec_of_format_write rfl hidle hready hsingle⟩

/-- Settles O8: one command has this format, F_LINE. -/
theorem lineReadLatchesItsFrame : Obligations.LineReadLatchesItsFrame :=
  fun q _ hidle hready hline => exec_readTempLine q hidle hready hline

/-! ### The broadcast frame and the mask (R78) -/

/-- LINE_MAX depends on a mask's highest bit alone. -/
theorem lineMax_eq_of_log2_eq {m k : BitVec 4} (hm : m ≠ 0) (hk : k ≠ 0) (h : Nat.log2 m.toNat = Nat.log2 k.toNat) :
    lineMax m = lineMax k := by
  rw [lineMax_eq_log2 hm, lineMax_eq_log2 hk, h]

/-- EXP of the broadcast read fits its four bits (R9, R211). -/
theorem latchedLine_exp_toNat (s : State) (q : Word16) : (latchedLine s q).exp.toNat = 2 * lineCnt s.cfgAmask := by
  have hcnt := lineCnt_le s.cfgAmask
  rw [latchedLine, BitVec.toNat_ofNat]
  omega

/-- The broadcast read sees the mask through LINE_MAX, in the frame, and LINE_CNT, in EXP. -/
theorem latchedLine_of_lineMax_eq {s : State} {m : BitVec 4} (h : lineMax m = lineMax s.cfgAmask) (q : Word16) :
    latchedLine { s with cfgAmask := m } q =
      { latchedLine s q with cfgAmask := m, exp := (latchedLine { s with cfgAmask := m } q).exp } := by
  simp only [latchedLine, h]

/-- Settles O15: both configurations latch the broadcast read, with one LINE_MAX between them. -/
theorem lineFrameDependsOnTheMaximumOnly : Obligations.LineFrameDependsOnTheMaximumOnly := by
  intro q s m hidle hready hline hmask hm hlog
  exact ⟨latchedLine s q, latchedLine { s with cfgAmask := m } q, exec_readTempLine q hidle hready hline,
    exec_readTempLine q hidle hready hline, latchedLine_of_lineMax_eq (lineMax_eq_of_log2_eq hm hmask hlog) q,
    latchedLine_exp_toNat s q, latchedLine_exp_toNat _ q⟩

end Sys2Proof.Machine
end

section
/-! PROOFS. The family 30_encoding.md, its text: the quantizer (R77) and the requests a line writes (R85). -/

namespace Sys2Proof.Machine

/-! ### The quantizer and the ratio's round trip (R77, R167) -/

/-- Whole thousandths are their own quantization, whatever the rounding does to other numbers. -/
theorem quantize_div_thousand {r : ℚ → ℤ} {n : Nat} (hr : r ((n : ℤ) : ℚ) = n) :
    quantize r ((n : ℚ) / 1000) = BitVec.ofNat 16 n := by
  have hscale : (n : ℚ) / 1000 * Config.rScale = ((n : ℤ) : ℚ) := by
    simp [Config.rScale]
  rw [quantize, hscale, hr, BitVec.ofInt_natCast]

/-- A word's two bytes, most significant first, are its big-endian integer (R51, R172). -/
theorem decodeInteger_encodePayload (q : Word16) : decodeInteger (encodePayload q) = q.toNat := by
  simp only [encodePayload, payloadHi, payloadLo, decodeInteger, BitVec.extractLsb'_toNat, List.length_cons, List.length_nil]
  omega

/-- The ratio reader takes every payload word back as it was written. -/
theorem decodeRatio_encodePayload (q : Word16) : decodeRatio (encodePayload q) = some q := by
  rw [decodeRatio, decodeInteger_encodePayload, BitVec.ofNat_toNat, BitVec.setWidth_eq]
  rfl

/-- Settles O55: the quantizer is exact on whole thousandths, and the reader takes its word back. -/
theorem ratioRoundTrip : Obligations.RatioRoundTrip := by
  refine ⟨fun n _ => ?_, fun r hr n hn => ?_⟩
  · have hq := quantize_div_thousand (qRound_intCast n)
    exact ⟨congrArg Instr.writeEmi hq, congrArg Instr.writeTrans hq⟩
  · rw [decodeRatio_encodePayload, quantize_div_thousand (hr n), BitVec.toNat_ofNat]
    exact ⟨by omega, rfl⟩

/-! ### Requests read from a line (R85) -/

theorem wellFormed_decode_iff {c : Cmd} {q : Word16} :
    (decode { cmd := c.code, q := q }).WellFormed ↔ c.isWrite = true ∨ q = 0 := by
  rw [Instr.WellFormed, decode_cmd, decode_q, Cmd.ofCode_code]

/-- A line that reads as a request is a mnemonic alone, which drives 0, or a write's mnemonic with its operand. -/
theorem parseRequest_cases {r : ℚ → ℤ} {ws : List (List Char)} {req : Request} (h : parseRequest r ws = some req) :
    ∃ c q, req = { cmd := Cmd.code c, q := q } ∧ (c.isWrite = true ∨ q = 0) := by
  unfold parseRequest at h
  split at h
  case h_1 =>
    obtain ⟨c, _, rfl⟩ := Option.map_eq_some_iff.1 h
    exact ⟨c, 0, rfl, .inr rfl⟩
  case h_2 =>
    split at h
    case h_1 => cases h
    case h_2 c _ =>
      split at h
      case isFalse => cases h
      case isTrue hwrite =>
        split at h
        all_goals
          obtain ⟨_, _, rfl⟩ := Option.map_eq_some_iff.1 h
          exact ⟨c, _, rfl, .inl hwrite⟩
  case h_3 => cases h

/-- Settles O56: only a write's line has an operand, and every other line drives 0. -/
theorem writtenRequestsAreWellFormed : Obligations.WrittenRequestsAreWellFormed := by
  intro r ws req h
  obtain ⟨c, q, rfl, hword⟩ := parseRequest_cases h
  exact wellFormed_decode_iff.2 hword

end Sys2Proof.Machine
end

section
/-! PROOFS. The family 40_commands.md, the frame encoder: format, length and reply length of every command's frame (R82, R100,
R211). -/

namespace Sys2Proof.Machine

open Safety

/-- Each command belongs to the one mode of R82's column. -/
theorem belongs_iff {c : Cmd} {m : CfgMode} : Belongs c m ↔ m = modeOf c := by
  cases c <;> cases m <;> simp [Belongs, modeOf]

/-- The writes are the commands of format F_WRITE (R74, R82). -/
theorem isWrite_iff_format {c : Cmd} : c.isWrite = true ↔ formatOf c = .write := by
  cases c <;> simp [Cmd.isWrite, formatOf]

/-- FLEN counts the bytes of the frame (R70, R100). -/
theorem encodeFrame_bytes_length (c : Cmd) (q : Word16) (s : State) :
    (encodeFrame c q s).bytes.length = (encodeFrame c q s).flen.toNat := by
  simp only [encodeFrame]
  cases formatOf c with
  | read => rfl
  | write => rfl
  | line => rfl

/-- A frame has at least one byte, and FRAME holds it (R28, R70). -/
theorem frameLen_toNat_bounds (f : Format) : 0 < (frameLen f).toNat ∧ (frameLen f).toNat ≤ 5 := by
  cases f <;> decide

/-- Every reply fits the buffer (R9, R211). -/
theorem expLen_le (m : BitVec 4) (c : Cmd) : expLen m c ≤ 8 := by
  cases c
  case readTempLine => exact Nat.mul_le_mul_left 2 (lineCnt_le m)
  all_goals simp [expLen, Config.lenTemp, Config.lenSn, Config.lenFw, Config.lenRatio]

/-- EXP holds the reply's length in its four bits (R9, R211). -/
theorem encodeFrame_exp_toNat (c : Cmd) (q : Word16) (s : State) :
    (encodeFrame c q s).exp.toNat = expLen s.cfgAmask c := by
  have hfits := expLen_le s.cfgAmask c
  rw [encodeFrame, BitVec.toNat_ofNat]
  omega

/-- Settles O11: ACCEPT latches the encoder's output, and the encoder's two lengths are right. -/
theorem latchedFrameIsTheEncoders : Obligations.LatchedFrameIsTheEncoders := by
  intro i s hidle hready hbelongs
  exact ⟨_, exec_of_admitted hidle hready (belongs_iff.1 hbelongs), rfl, rfl, rfl,
    encodeFrame_bytes_length i.cmd i.q s, encodeFrame_exp_toNat i.cmd i.q s⟩

end Sys2Proof.Machine
end

section
/-! PROOFS. The family 40_commands.md, the whole exchange: each step by the move that heads the schedule (R201 to R208), the frame
sent, the reply received, and the reply judged at CLOSE. -/

namespace Sys2Proof.Machine

open Safety

/-! ### One step, by the head of the schedule -/

section Steps

variable {s : State} {m : Stimulus} {b : Byte} {rest : List Stimulus}

/-- The line sees a closed line opened (R30, R56). -/
theorem State.setLineOpen_true_of_closed (hclosed : s.lineOpen = false) :
    s.setLineOpen true = { s with lineOpen := true, lineLog := s.lineLog ++ [.raiseOpen] } := by
  simp [State.setLineOpen, hclosed]

/-- The line sees an open line closed (R30, R56). -/
theorem State.setLineOpen_false_of_open (hopen : s.lineOpen = true) :
    s.setLineOpen false = { s with lineOpen := false, lineLog := s.lineLog ++ [.lowerOpen] } := by
  simp [State.setLineOpen, hopen]

/-- But for the FSM's move in IDLE, the head of the schedule is the move of one agent. -/
theorem step_eq_agentStep (hhead : s.stimuli = m :: rest) (hbusy : s.st ≠ .idle ∨ m ≠ .fsm) :
    step s = agentStep m { s with stimuli := rest } := by
  rw [← State.dropMove_of_cons hhead, ← nextMove_of_cons hhead]
  rcases step_cases s with ⟨_, hmove, hidle, _⟩ | ⟨_, hstep⟩
  · rw [nextMove_of_cons hhead] at hmove
    exact absurd hbusy (by simp [hidle, hmove])
  · exact hstep

theorem fsmStep_of_arm (hst : s.st = .arm) : fsmStep s = armStep s := by
  simp only [fsmStep, hst]

theorem fsmStep_of_wait (hst : s.st = .wait) : fsmStep s = checkStep s := by
  simp only [fsmStep, hst]

theorem fsmStep_of_close (hst : s.st = .close) : fsmStep s = closeStep s := by
  simp only [fsmStep, hst]

/-- The state in OPEN after ACCEPT of the request `i` in `s` (R201), with the schedule that is left. -/
def requestLatched (s : State) (i : Instr) (rest : List Stimulus) : State :=
  { s with stimuli := rest, reqPort := none }.clearResult.latchRequest i.cmd i.q (encodeFrame i.cmd i.q s)

/-- ACCEPT of an admitted request (R201). -/
theorem step_of_admitted {i : Instr} (hhead : s.stimuli = .fsm :: rest) (hidle : s.st = .idle)
    (hready : s.cfgStatus = .ready) (hmode : s.cfgMode = modeOf i.cmd) (hport : s.reqPort = some (encode i)) :
    step s = .next (requestLatched s i rest) := by
  rw [(stepRunsTheDecodedRequest s (encode i) i hidle hport (decode_encode i)).1 rest hhead]
  exact exec_of_admitted hidle hready hmode

/-- OPEN, answered ok (R203). -/
theorem step_of_opened (hhead : s.stimuli = .openAns true :: rest) (hst : s.st = .opening) (hclosed : s.lineOpen = false) :
    step s = .next { s with stimuli := rest, lineOpen := true, st := .arm, lineLog := s.lineLog ++ [.raiseOpen] } := by
  rw [step_eq_agentStep hhead (.inr nofun), agentStep, openStep,
    State.setLineOpen_true_of_closed (s := { s with stimuli := rest }) hclosed]
  exact if_pos hst

/-- ARM (R204). -/
theorem step_of_arm (hhead : s.stimuli = .fsm :: rest) (hst : s.st = .arm) :
    step s = .next { s with stimuli := rest, rxEn := true, rlen := 0, rovf := false, txi := 0, st := .send } := by
  rw [step_eq_agentStep hhead (.inl (by simp [hst])), agentStep, fsmStep_of_arm (s := { s with stimuli := rest }) hst]
  rfl

/-- SEND, a byte that is not the last (R205). -/
theorem step_of_sent (hhead : s.stimuli = .txReady :: rest) (hst : s.st = .send)
    (hbyte : s.frame.get s.txi.toNat = some b) (hmore : s.txi + 1 ≠ s.flen) :
    step s = .next ({ s with stimuli := rest }.emitTx b).nextTx := by
  rw [step_eq_agentStep hhead (.inr nofun)]
  simp only [agentStep, sendStep, hst, hbyte, hmore, if_true, if_false]

/-- SEND, the last byte (R205). -/
theorem step_of_sentLast (hhead : s.stimuli = .txReady :: rest) (hst : s.st = .send)
    (hbyte : s.frame.get s.txi.toNat = some b) (hlast : s.txi + 1 = s.flen) :
    step s = .next (({ s with stimuli := rest }.emitTx b).nextTx.startTimer.goto .wait) := by
  rw [step_eq_agentStep hhead (.inr nofun)]
  simp only [agentStep, sendStep, hst, hbyte, hlast, if_true]

/-- RX inside the window, with room in the buffer (R160). -/
theorem step_of_stored (hhead : s.stimuli = .rx b :: rest) (hwindow : s.rxEn = true) (hroom : s.rlen.toNat < 8) :
    step s = .next ({ s with stimuli := rest }.storeByte ⟨s.rlen.toNat, hroom⟩ b) := by
  rw [step_eq_agentStep hhead (.inr nofun)]
  simp only [agentStep, rxStep, hwindow, hroom, if_true, dif_pos]

/-- WAIT, the reply complete (R206). -/
theorem step_of_complete (hhead : s.stimuli = .fsm :: rest) (hst : s.st = .wait) (hcomplete : complete s = true) :
    step s = .next ({ s with stimuli := rest }.goto .close) := by
  rw [step_eq_agentStep hhead (.inl (by simp [hst])), agentStep, fsmStep_of_wait (s := { s with stimuli := rest }) hst]
  rcases checkStep_cases { s with stimuli := rest } with ⟨_, hclose⟩ | ⟨hshort, _⟩
  · exact hclose
  · exact absurd hcomplete (Bool.eq_false_iff.1 hshort)

/-- CLOSE (R208). -/
theorem step_of_close (hhead : s.stimuli = .fsm :: rest) (hst : s.st = .close) (hopen : s.lineOpen = true) :
    step s = .next
      { s with
        stimuli := rest, lineOpen := false, rxEn := false, resKind := if exchangeOk s then .ok else .fail, resCmd := s.curCmd
        resValid := true, st := .idle, lineLog := s.lineLog ++ [.lowerOpen] } := by
  rw [step_eq_agentStep hhead (.inl (by simp [hst])), agentStep, fsmStep_of_close (s := { s with stimuli := rest }) hst,
    closeStep, State.setLineOpen_false_of_open (s := { s with stimuli := rest }) hopen]
  rfl

end Steps

/-- Two stretches of a schedule, one after the other. -/
theorem run_append {l l' : List Stimulus} {s t u : State} (h : run l.length s = .next t) (h' : run l'.length t = .next u) :
    run (l ++ l').length s = .next u := by
  rw [List.length_append, run_add _ _ _ _ h, h']

/-! ### The frame on the line (R201 to R205) -/

/-- FRAME holds the bytes it was loaded with (R100). -/
theorem FrameRegs.get_load (f : FrameRegs) {bytes : List Byte} (hlen : bytes.length ≤ 5) {k : Nat} (hk : k < bytes.length) :
    (f.load bytes).get k = bytes[k]? := by
  match k with
  | 0 | 1 | 2 | 3 | 4 => simp [FrameRegs.get, FrameRegs.load, hk]
  | n + 5 => omega

/-- SEND with the transmitter always ready: the bytes of FRAME from TXI up to FLEN go out in order, then the timer starts (R205). -/
theorem run_send {bytes : List Byte} {rest : List Stimulus} {s : State} (hne : bytes ≠ []) (hst : s.st = .send)
    (hstim : s.stimuli = List.replicate bytes.length Stimulus.txReady ++ rest) (hflen : s.txi.toNat + bytes.length = s.flen.toNat)
    (hframe : ∀ k < bytes.length, s.frame.get (s.txi.toNat + k) = bytes[k]?) :
    run (List.replicate bytes.length Stimulus.txReady).length s = .next
      { s with
        stimuli := rest, txi := s.flen, elapsed := 0, st := .wait
        lineLog := s.lineLog ++ bytes.map .tx } := by
  induction bytes generalizing s with
  | nil => exact absurd rfl hne
  | cons b bs ih =>
    have hbyte : s.frame.get s.txi.toNat = some b := hframe 0 (Nat.succ_pos _)
    simp only [List.length_cons, List.length_replicate] at hflen ih ⊢
    by_cases hend : bs = []
    case pos =>
      subst hend
      have hlast : s.txi + 1 = s.flen := by
        simp only [List.length_nil] at hflen
        bv_omega
      rw [List.length_nil, run_next 0 _ _ (step_of_sentLast hstim hst hbyte hlast), run_zero, ← hlast]
      rfl
    case neg =>
      have hpos : 0 < bs.length := List.length_pos_iff.2 hend
      have hmore : s.txi + 1 ≠ s.flen := by bv_omega
      have hnext : (s.txi + 1).toNat = s.txi.toNat + 1 := by bv_omega
      rw [run_next _ _ _ (step_of_sent (rest := List.replicate bs.length Stimulus.txReady ++ rest) hstim hst hbyte hmore)]
      refine (ih (s := ({ s with stimuli := List.replicate bs.length Stimulus.txReady ++ rest }.emitTx b).nextTx)
        hend hst rfl ?_ fun k hk => ?_).trans ?_
      · simp only [State.nextTx_txi, State.emitTx_txi, State.nextTx_flen, State.emitTx_flen, hnext]
        omega
      · simp only [State.nextTx_txi, State.emitTx_txi, State.nextTx_frame, State.emitTx_frame, hnext]
        rw [Nat.add_assoc, Nat.add_comm 1 k, hframe (k + 1) (Nat.succ_lt_succ hk), List.getElem?_cons_succ]
      · simp [State.nextTx, State.emitTx]

/-- The state in which the line is open and the receive path armed for the request `i` taken in `s` (R203, R204). -/
def frameArmed (s : State) (i : Instr) (rest : List Stimulus) : State :=
  { requestLatched s i rest with
    lineOpen := true, rxEn := true, rlen := 0, rovf := false, txi := 0, st := .send
    lineLog := s.lineLog ++ [.raiseOpen] }

/-- The state in which the frame of that request is out on the line and its reply is awaited (R205). -/
def frameSent (s : State) (i : Instr) (rest : List Stimulus) : State :=
  { frameArmed s i rest with
    txi := (encodeFrame i.cmd i.q s).flen, elapsed := 0, st := .wait
    lineLog := s.lineLog ++ [.raiseOpen] ++ (encodeFrame i.cmd i.q s).bytes.map .tx }

section Presented

variable {s : State} {i : Instr} {rest : List Stimulus} (hidle : s.st = .idle) (hready : s.cfgStatus = .ready)
  (hmode : s.cfgMode = modeOf i.cmd) (hport : s.reqPort = some (encode i)) (hclosed : s.lineOpen = false)

include hidle hready hmode hport hclosed

/-- An admitted request, opened at once: ACCEPT, OPEN and ARM. -/
theorem run_frameArmed (hstim : s.stimuli = [.fsm, .openAns true, .fsm] ++ rest) :
    run 3 s = .next (frameArmed s i rest) := by
  have haccept := step_of_admitted (rest := .openAns true :: .fsm :: rest) hstim hidle hready hmode hport
  have hopen := step_of_opened (s := requestLatched s i _) (rest := .fsm :: rest) rfl rfl hclosed
  rw [run_next 2 _ _ haccept, run_next 1 _ _ hopen]
  exact run_next 0 _ _ (step_of_arm rfl rfl)

/-- The same request, its frame sent without a pause. -/
theorem run_frameSent
    (hstim : s.stimuli = [.fsm, .openAns true, .fsm] ++ List.replicate (frameLen (formatOf i.cmd)).toNat Stimulus.txReady ++ rest) :
    run ([Stimulus.fsm, .openAns true, .fsm] ++ List.replicate (frameLen (formatOf i.cmd)).toNat Stimulus.txReady).length s =
      .next (frameSent s i rest) := by
  have hlen : (encodeFrame i.cmd i.q s).bytes.length = (frameLen (formatOf i.cmd)).toNat :=
    encodeFrame_bytes_length i.cmd i.q s
  obtain ⟨hpos, hmax⟩ := frameLen_toNat_bounds (formatOf i.cmd)
  rw [← hlen] at hstim hpos hmax ⊢
  rw [List.append_assoc] at hstim
  have hsend := run_send (s := frameArmed s i _) (rest := rest) (List.length_pos_iff.1 hpos) rfl rfl
    (by simpa [frameArmed, requestLatched] using encodeFrame_bytes_length i.cmd i.q s)
    (fun k hk => by simpa [frameArmed, requestLatched] using FrameRegs.get_load s.frame hmax hk)
  exact run_append (run_frameArmed hidle hready hmode hport hclosed hstim) hsend

end Presented

/-! ### The reply in the buffer (R160, R206) -/

/-- RX inside the window, with room for all the bytes: they stand in RB from RLEN on, in order, and the bytes before them stay
(R160). -/
theorem run_receive {bytes : List Byte} {rest : List Stimulus} {s : State} (hwf : s.rb.wf = true) (hwindow : s.rxEn = true)
    (hstim : s.stimuli = bytes.map .rx ++ rest) (hroom : s.rlen.toNat + bytes.length ≤ 8) :
    ∃ m : Memory,
      run (bytes.map Stimulus.rx).length s =
        .next { s with stimuli := rest, rb := m, rlen := s.rlen + BitVec.ofNat 4 bytes.length } ∧
      (∀ a < s.rlen.toNat, m.read a = s.rb.read a) ∧ m.readRange s.rlen.toNat bytes.length = some bytes := by
  induction bytes generalizing s with
  | nil =>
    refine ⟨s.rb, ?_, fun _ _ => rfl, rfl⟩
    have hstim' : s.stimuli = rest := hstim
    simp [← hstim']
  | cons b bs ih =>
    rw [List.length_cons] at hroom
    have hfree : s.rlen.toNat < 8 := by omega
    have hnext : (s.rlen + 1).toNat = s.rlen.toNat + 1 := by bv_omega
    have hwrite := Memory.read_write s.rb ⟨s.rlen.toNat, hfree⟩ b hwf
    have hstep := step_of_stored (rest := bs.map Stimulus.rx ++ rest) hstim hwindow hfree
    obtain ⟨m, hrun, hbelow, hread⟩ := ih
      (s := { s with stimuli := bs.map Stimulus.rx ++ rest }.storeByte ⟨s.rlen.toNat, hfree⟩ b)
      (Memory.write_wf s.rb _ b hwf) hwindow rfl (by rw [State.storeByte_rlen, hnext]; omega)
    simp only [State.storeByte_rlen, State.storeByte_rb, hnext] at hbelow hread
    refine ⟨m, ?_, fun a ha => ?_, ?_⟩
    · rw [List.map_cons, List.length_cons, run_next _ _ _ hstep, hrun, List.length_cons, Nat.add_comm, BitVec.ofNat_add,
        ← BitVec.add_assoc]
      rfl
    · rw [hbelow a (by omega), hwrite, if_neg (by simp; omega)]
    · have hhere : m.read s.rlen.toNat = some b := by rw [hbelow _ (by omega), hwrite, if_pos rfl]
      simp only [List.length_cons, Memory.readRange, hhere, hread]

/-- CLOSE's verdict on a complete reply: a write fails where the reply is not its echo, and nothing else fails (R208). -/
theorem resKind_of_complete {s : State} {bytes : List Byte} (hcomplete : complete s = true)
    (hread : memRead s 0 bytes.length = some bytes) (hlen : s.curCmd.isWrite = true → bytes.length = 2) :
    (if exchangeOk s then ResKind.ok else .fail) =
      if s.curCmd.isWrite = true ∧ bytes ≠ expectedEcho s.params.echoOrder s.curQ then .fail else .ok := by
  cases hwrite : s.curCmd.isWrite with
  | false => simp [exchangeOk, hcomplete, hwrite]
  | true =>
    rw [hlen hwrite] at hread
    by_cases hecho : bytes = expectedEcho s.params.echoOrder s.curQ <;>
      simp [exchangeOk, echoOk, hcomplete, hwrite, hread, hecho]

/-- A complete reply in WAIT: the check leaves it to CLOSE, which judges it (R206, R208). -/
theorem run_judged {s : State} {rest : List Stimulus} (hcomplete : complete s = true) (hst : s.st = .wait)
    (hstim : s.stimuli = [.fsm, .fsm] ++ rest) (hopen : s.lineOpen = true) :
    run 2 s = .next
      { s with
        stimuli := rest, lineOpen := false, rxEn := false, resKind := if exchangeOk s then .ok else .fail, resCmd := s.curCmd
        resValid := true, st := .idle, lineLog := s.lineLog ++ [.lowerOpen] } := by
  refine Eq.trans (run_next 1 _ _ (step_of_complete hstim hst hcomplete)) ?_
  exact run_next 0 _ _ (step_of_close rfl rfl hopen)

/-- A reply of the expected length that arrives before the first check stands in RB, and is judged as it stands (R160, R206, R208). -/
theorem run_answered {s : State} {bytes : List Byte} {rest : List Stimulus} (hst : s.st = .wait) (hwf : s.rb.wf = true)
    (hwindow : s.rxEn = true) (hopen : s.lineOpen = true) (hempty : s.rlen = 0) (hkept : s.rovf = false)
    (hexp : s.exp = BitVec.ofNat 4 bytes.length) (hroom : bytes.length ≤ 8)
    (hecho : s.curCmd.isWrite = true → bytes.length = 2) (hstim : s.stimuli = bytes.map .rx ++ ([.fsm, .fsm] ++ rest)) :
    ∃ m : Memory,
      run (bytes.map Stimulus.rx ++ [Stimulus.fsm, .fsm]).length s = .next
        { s with
          stimuli := rest, rb := m, rlen := s.exp, lineOpen := false, rxEn := false, st := .idle
          resValid := true, resCmd := s.curCmd
          resKind := if s.curCmd.isWrite = true ∧ bytes ≠ expectedEcho s.params.echoOrder s.curQ then .fail else .ok
          lineLog := s.lineLog ++ [.lowerOpen] } ∧
      m.readRange 0 bytes.length = some bytes := by
  have hzero : s.rlen.toNat = 0 := by simp [hempty]
  obtain ⟨m, hreceived, _, hread⟩ := run_receive hwf hwindow hstim (by omega)
  have hfull : s.rlen + BitVec.ofNat 4 bytes.length = s.exp := by simp [hempty, hexp]
  rw [hfull] at hreceived
  rw [hzero] at hread
  have hcomplete : complete { s with stimuli := [.fsm, .fsm] ++ rest, rb := m, rlen := s.exp } = true :=
    (complete_iff _).2 ⟨hkept, rfl⟩
  have hjudged := run_judged hcomplete hst rfl hopen
  rw [resKind_of_complete hcomplete hread hecho] at hjudged
  exact ⟨m, run_append hreceived hjudged, hread⟩

/-- Settles O41: the frame goes out, and the reply is received and judged. -/
theorem promptExchangeDeliversTheReply : Obligations.PromptExchangeDeliversTheReply := by
  intro s i bytes rest hinv hidle hready hbelongs hport hlen hstim
  obtain ⟨hclosed, _⟩ := hinv.exchange.idle_is_closed hidle
  have hroom : bytes.length ≤ 8 := hlen ▸ expLen_le s.cfgAmask i.cmd
  have hecho : i.cmd.isWrite = true → bytes.length = 2 := fun hwrite =>
    hlen.trans (expLen_of_format_write (isWrite_iff_format.1 hwrite) _)
  rw [promptSchedule, List.append_assoc, List.append_assoc] at hstim
  have hsent := run_frameSent hidle hready (belongs_iff.1 hbelongs) hport hclosed hstim
  obtain ⟨m, hanswered, hread⟩ := run_answered (s := frameSent s i _) rfl hinv.memory_canonical rfl rfl rfl rfl
    (congrArg (BitVec.ofNat 4) hlen.symm) hroom hecho rfl
  rw [promptSchedule, List.append_assoc]
  exact ⟨_, run_append hsent hanswered, rfl, rfl, rfl, rfl, hread, rfl, by simp [frameSent, exchangeActs], rfl, rfl, rfl⟩

end Sys2Proof.Machine
end

section
/-! PROOFS. The family 41_checksum.md: the fold's two equations (R140), its bits (R141) and its laws (R142). -/

namespace Sys2Proof.Machine

/-! ### The concatenation law and what follows from it (R140, R142) -/

theorem checksum_singleton (a : Byte) : checksum [a] = a := by
  simp [checksum_cons]

/-- The fold over the second part starts from the checksum of the first. -/
theorem checksum_append (a b : List Byte) : checksum (a ++ b) = checksum a ^^^ checksum b := by
  rw [checksum, List.foldl_append]
  exact checksum_foldl (checksum a) b

/-- Settles O43: appending one byte is the concatenation law for a single byte. -/
theorem checksumIsTheXorFold : Obligations.ChecksumIsTheXorFold :=
  ⟨checksum_nil, fun s b => by rw [checksum_append, checksum_singleton]⟩

theorem checksum_append_checksum (s : List Byte) : checksum (s ++ [checksum s]) = 0 := by
  rw [checksum_append, checksum_singleton]
  exact BitVec.xor_self

/-- A fold does not see the order of the bytes when the step commutes with itself, as exclusive OR does. -/
theorem checksum_perm {s p : List Byte} (h : s.Perm p) : checksum s = checksum p :=
  h.foldl_eq 0

/-- R142's laws on frames: what follows the address byte is a sequence and its checksum, for both formats that carry one. -/
theorem checksum_frameWrite_tail (op : Byte) (a : BitVec 3) (q : Word16) : checksum (frameWrite op a q).tail = 0 :=
  checksum_append_checksum [op, payloadHi q, payloadLo q]

theorem checksum_frameLine_tail (op : Byte) (m : BitVec 4) : checksum (frameLine op m).tail = 0 :=
  checksum_append_checksum [op, lineMax m]

/-- Settles O45: the concatenation law gives those on a checksum after its bytes; a byte twice is one byte and its checksum. -/
theorem checksumLaws : Obligations.ChecksumLaws :=
  ⟨checksum_nil, checksum_singleton, fun _ => BitVec.xor_zero, checksum_append, fun _ _ => checksum_perm,
    checksum_append_checksum, checksum_frameWrite_tail, checksum_frameLine_tail,
    fun x => (checksum_two x x).trans BitVec.xor_self⟩

/-! ### The bits of the checksum (R141) -/

/-- One more to count turns the parity over. -/
theorem decide_odd_succ (n : Nat) : decide ((n + 1) % 2 = 1) = !decide (n % 2 = 1) := by
  rw [← decide_not, decide_eq_decide]
  omega

/-- Settles O44, byte by byte: a byte with bit `k` set turns bit `k` of the checksum over and counts as one more, another byte does
neither. -/
theorem checksumBitsAreParities : Obligations.ChecksumBitsAreParities := by
  intro s k
  induction s with
  | nil => simp
  | cons b s ih =>
    rw [checksum_cons, BitVec.getLsbD_xor, ih]
    cases hbit : b.getLsbD k with
    | true => simp only [List.countP_cons, hbit, if_true, decide_odd_succ, Bool.true_xor]
    | false => simp [hbit]

end Sys2Proof.Machine
end

section
/-! PROOFS. The family 42_response_decoder.md: the receive append (R160), the payload unpackers (R165 to R169, R172), the echo check
(R170), the line's chunks (R171) and the decoded outputs (R164, R173). -/

namespace Sys2Proof.Machine

/-! ### The receive append (R160, R161) -/

section Receive

variable {s : State} {b : Byte} {rest : List Stimulus}

/-- RX outside the window (R160). -/
theorem step_of_discarded (hhead : s.stimuli = .rx b :: rest) (hclosed : s.rxEn = false) :
    step s = .next { s with stimuli := rest } := by
  rw [step_eq_agentStep hhead (.inr nofun)]
  simp [agentStep, rxStep, hclosed]

/-- RX inside the window, the buffer full (R161). -/
theorem step_of_overflow (hhead : s.stimuli = .rx b :: rest) (hwindow : s.rxEn = true) (hfull : 8 ≤ s.rlen.toNat) :
    step s = .next { s with stimuli := rest, rovf := true } := by
  rw [step_eq_agentStep hhead (.inr nofun)]
  simp [agentStep, rxStep, hwindow, Nat.not_lt.2 hfull, State.setOverflow]

end Receive

/-- Settles O22: discarded, overflowed or stored; the store is the buffer's one write. -/
theorem receivedByteIsAppended : Obligations.ReceivedByteIsAppended := by
  intro s rest b hwf hhead
  refine ⟨step_of_discarded hhead, step_of_overflow hhead, fun hwindow hroom => ?_⟩
  exact ⟨_, step_of_stored hhead hwindow hroom, Memory.write_wf s.rb _ b hwf, Memory.read_write s.rb _ b hwf⟩

/-! ### The big-endian integer (R172) -/

/-- The recursion on the first byte is the sum over all positions. -/
theorem decodeInteger_eq_sum (s : List Byte) :
    decodeInteger s = ((List.range s.length).map fun k => (s.getD k 0).toNat * 256 ^ (s.length - 1 - k)).sum := by
  induction s with
  | nil => rfl
  | cons b s ih =>
    have hexp (k : Nat) : s.length - 1 - k = s.length - (k + 1) := by omega
    simp only [decodeInteger, ih, List.length_cons, List.range_succ_eq_map, List.map_cons, List.map_map, List.sum_cons,
      Function.comp_def, List.getD_cons_zero, List.getD_cons_succ, Nat.add_sub_cancel, Nat.sub_zero, Nat.succ_eq_add_one, hexp]

/-- `w` bytes hold an integer below `256 ^ w`. -/
theorem decodeInteger_lt (s : List Byte) : decodeInteger s < 256 ^ s.length := by
  induction s with
  | nil => decide
  | cons b s ih =>
    have hb : (b.toNat + 1) * 256 ^ s.length ≤ 256 * 256 ^ s.length := Nat.mul_le_mul_right _ b.isLt
    rw [decodeInteger, List.length_cons, Nat.pow_succ']
    linarith

theorem decodeInteger_two (a b : Byte) : decodeInteger [a, b] = a.toNat * 256 + b.toNat := by
  simp [decodeInteger]

theorem decodeInteger_three (a b c : Byte) : decodeInteger [a, b, c] = a.toNat * 65536 + b.toNat * 256 + c.toNat := by
  simp [decodeInteger, Nat.add_assoc]

/-! ### The unpackers, by the reply's length (R165, R167 to R169) -/

section Unpackers

variable {s : List Byte}

theorem decodeTemperature_of_length (h : s.length = 2) : decodeTemperature s = some ((decodeInteger s : Int) - 1000) := if_pos h
theorem decodeTemperature_of_length_ne (h : s.length ≠ 2) : decodeTemperature s = none := if_neg h
theorem decodeRatio_of_length (h : s.length = 2) : decodeRatio s = some (BitVec.ofNat 16 (decodeInteger s)) := if_pos h
theorem decodeRatio_of_length_ne (h : s.length ≠ 2) : decodeRatio s = none := if_neg h
theorem decodeSerial_of_length (h : s.length = 3) : decodeSerial s = some (BitVec.ofNat 32 (decodeInteger s)) := if_pos h
theorem decodeSerial_of_length_ne (h : s.length ≠ 3) : decodeSerial s = none := if_neg h

/-- The firmware word and the ratio are one reading of two bytes (R167, R169). -/
theorem decodeFirmwareWord_eq_decodeRatio (s : List Byte) : decodeFirmwareWord s = decodeRatio s := rfl

/-- A reply of two bytes fits the 16 bits it is read into. -/
theorem decodeRatio_toNat (h : s.length = 2) : ∃ r, decodeRatio s = some r ∧ r.toNat = decodeInteger s := by
  have hlt := decodeInteger_lt s
  rw [h] at hlt
  exact ⟨_, decodeRatio_of_length h, BitVec.toNat_ofNat _ _ |>.trans (Nat.mod_eq_of_lt hlt)⟩

/-- A reply of three bytes leaves the top byte of the 32 bits it is read into at 0 (R168). -/
theorem decodeSerial_toNat (h : s.length = 3) :
    ∃ sn, decodeSerial s = some sn ∧ sn.toNat = decodeInteger s ∧ sn.toNat < 2 ^ 24 := by
  have hlt := decodeInteger_lt s
  rw [h] at hlt
  have hfits : (BitVec.ofNat 32 (decodeInteger s)).toNat = decodeInteger s := by
    rw [BitVec.toNat_ofNat]
    omega
  exact ⟨_, decodeSerial_of_length h, hfits, hfits.trans_lt hlt⟩

end Unpackers

/-- Settles O46: the sum of R172, and each unpacker's word is wide enough for it. -/
theorem integersAreBigEndian : Obligations.IntegersAreBigEndian := by
  refine fun s => ⟨decodeInteger_eq_sum s, fun htwo => ?_, fun hthree => ?_⟩
  · exact ⟨decodeTemperature_of_length htwo, decodeRatio_toNat htwo, decodeRatio_toNat htwo⟩
  · obtain ⟨sn, hdecode, hsum, _⟩ := decodeSerial_toNat hthree
    exact ⟨sn, hdecode, hsum⟩

theorem decodeTemperature_two (a b : Byte) :
    decodeTemperature [a, b] = some ((a.toNat : Int) * 256 + (b.toNat : Int) - 1000) := by
  rw [decodeTemperature_of_length rfl, decodeInteger_two]
  push_cast
  rfl

/-- Settles O47: the range is that of two bytes, shifted by the offset. -/
theorem temperatureDecodes : Obligations.TemperatureDecodes := by
  refine ⟨fun s => decodeTemperature_of_length_ne, fun a b => ⟨_, decodeTemperature_two a b, rfl, ?_⟩⟩
  have ha := a.isLt
  have hb := b.isLt
  omega

/-- Two bytes side by side are their big-endian word (R51, R172). -/
theorem toNat_append_bytes (a b : Byte) : (a ++ b).toNat = a.toNat * 256 + b.toNat := by
  rw [BitVec.toNat_append, ← Nat.shiftLeft_add_eq_or_of_lt b.isLt, Nat.shiftLeft_eq]

theorem decodeRatio_two (a b : Byte) : decodeRatio [a, b] = some (a ++ b) := by
  rw [decodeRatio_of_length rfl, decodeInteger_two, ← toNat_append_bytes, BitVec.ofNat_toNat, BitVec.setWidth_eq]

/-- FW of two bytes: their word, under FW_SIGNED its two's complement value (R169). -/
theorem decodeFirmware_two (f : Bool) (a b : Byte) :
    decodeFirmware f [a, b] = some (if f then sint16 (a ++ b) else ((a ++ b).toNat : Int)) := by
  rw [decodeFirmware, decodeFirmwareWord_eq_decodeRatio, decodeRatio_two]
  rfl

/-- Settles O48, by the reply's length, then on the bytes themselves. -/
theorem ratioSerialFirmwareDecode : Obligations.RatioSerialFirmwareDecode := by
  refine ⟨fun s hlen => ?_, fun s => decodeSerial_of_length_ne, decodeRatio_two, fun a b c => ?_, fun a b => ?_⟩
  · have hnone := decodeRatio_of_length_ne hlen
    exact ⟨hnone, hnone, fun f => by rw [decodeFirmware, decodeFirmwareWord_eq_decodeRatio, hnone, Option.map_none]⟩
  · obtain ⟨sn, hdecode, hsum, hlt⟩ := decodeSerial_toNat (s := [a, b, c]) rfl
    refine ⟨sn, hdecode, hsum.trans (decodeInteger_three a b c), ?_⟩
    rw [BitVec.toNat_eq, BitVec.extractLsb'_toNat, Nat.shiftRight_eq_zero _ _ hlt]
    rfl
  · refine ⟨decodeRatio_two a b, ?_, ?_⟩ <;> rw [decodeFirmware_two, ← toNat_append_bytes] <;> rfl

/-! ### Two bytes of the buffer (R50) -/

/-- RB has a byte at every index below 8. -/
theorem Memory.exists_read (m : Memory) {a : Nat} (ha : a < 8) : ∃ b, m.read a = some b :=
  ⟨_, if_pos ha⟩

theorem Memory.readRange_two (m : Memory) (i : Nat) (a b : Byte) :
    m.readRange i 2 = some [a, b] ↔ m.read i = some a ∧ m.read (i + 1) = some b := by
  cases hfirst : m.read i <;> cases hsecond : m.read (i + 1) <;> simp [Memory.readRange, hfirst, hsecond]

/-- Settles O49: each order is one pair of bytes. -/
theorem echoComparesThePayload : Obligations.EchoComparesThePayload := by
  intro s q
  have hpair {x y : Byte} (horder : expectedEcho s.params.echoOrder q = [x, y]) :
      echoOk q s = true ↔ s.rb.read 0 = some x ∧ s.rb.read 1 = some y := by
    rw [echoOk, horder, decide_eq_true_eq]
    exact Memory.readRange_two s.rb 0 x y
  exact ⟨fun hsame => hpair (by rw [hsame]; rfl), fun hreversed => hpair (by rw [hreversed]; rfl)⟩

/-! ### The decoded outputs, by the standing result (R164, R173) -/

theorem resultOkFor_iff {s : State} {c : Cmd} :
    resultOkFor s c = true ↔ s.resValid = true ∧ s.resKind = .ok ∧ s.resCmd = c := by
  simp [resultOkFor, and_assoc]

section Outputs

variable {s : State}

theorem resultOkFor_of_not_standing (h : s.resValid = false ∨ s.resKind ≠ .ok) (c : Cmd) : resultOkFor s c = false := by
  rcases h with hvalid | hkind
  · simp [resultOkFor, hvalid]
  · simp [resultOkFor, hkind]

theorem resultOkFor_of_cmd_ne {c : Cmd} (h : s.resCmd ≠ c) : resultOkFor s c = false := by
  simp [resultOkFor, h]

theorem outT10_eq_none (h : resultOkFor s .readTemp = false) : outT10 s = none := by
  simp [outT10, h]

theorem outSN_eq_none (h : resultOkFor s .readSerial = false) : outSN s = none := by
  simp [outSN, h]

theorem outFWW_eq_none (h : resultOkFor s .readFw = false) : outFWW s = none := by
  simp [outFWW, h]

theorem outFW_eq_none (h : resultOkFor s .readFw = false) : outFW s = none := by
  simp [outFW, h]

theorem outR1000_eq_none (hemi : resultOkFor s .readEmi = false) (htrans : resultOkFor s .readTrans = false) :
    outR1000 s = none := by
  simp [outR1000, hemi, htrans]

theorem outLine_eq_none (h : resultOkFor s .readTempLine = false) (j : Nat) : outLineT10 s j = none ∧ outLineHas s j = none := by
  simp [outLineT10, outLineHas, h]

theorem reply_eq_none (h : s.resValid = false ∨ s.resKind ≠ .ok) : reply s = none := by
  rcases h with hvalid | hkind
  · simp [reply, hvalid]
  · simp [reply, hkind]

/-- The line's outputs while READ_TEMP_LINE has a standing OK result are R171's (R173). -/
theorem outLine_of_resultOk (h : resultOkFor s .readTempLine = true) (j : Nat) :
    outLineT10 s j = lineT10 s j ∧ outLineHas s j = lineHas s j :=
  ⟨if_pos h, if_pos h⟩

end Outputs

/-- Settles O51: every output waits for `resultOkFor` of its command, which neither kind of state meets. -/
theorem outputsNeedAnOkResult : Obligations.OutputsNeedAnOkResult := by
  refine ⟨fun s h => ?_, fun s => ?_⟩
  · have hno := resultOkFor_of_not_standing h
    exact ⟨outT10_eq_none (hno _), outSN_eq_none (hno _), outFWW_eq_none (hno _), outFW_eq_none (hno _),
      outR1000_eq_none (hno _) (hno _), reply_eq_none h, outLine_eq_none (hno _)⟩
  · exact ⟨fun h => outT10_eq_none (resultOkFor_of_cmd_ne h), fun h => outSN_eq_none (resultOkFor_of_cmd_ne h),
      fun h => ⟨outFWW_eq_none (resultOkFor_of_cmd_ne h), outFW_eq_none (resultOkFor_of_cmd_ne h)⟩,
      fun hemi htrans => outR1000_eq_none (resultOkFor_of_cmd_ne hemi) (resultOkFor_of_cmd_ne htrans),
      fun h => outLine_eq_none (resultOkFor_of_cmd_ne h)⟩

/-! ### The line's chunks (R171) -/

section Line

variable {s : State} {j : Nat}

/-- Address `j` takes chunk `j - 1`, which lies inside RB: LINE_CNT is at most 4. -/
theorem lineT10_of_chunk (h : 1 ≤ j ∧ j ≤ lineCnt s.cfgAmask) :
    ∃ a b, s.rb.read (2 * (j - 1)) = some a ∧ s.rb.read (2 * (j - 1) + 1) = some b ∧
      lineT10 s j = some ((a.toNat : Int) * 256 + (b.toNat : Int) - 1000) := by
  have hcnt := lineCnt_le s.cfgAmask
  obtain ⟨a, ha⟩ := s.rb.exists_read (a := 2 * (j - 1)) (by omega)
  obtain ⟨b, hb⟩ := s.rb.exists_read (a := 2 * (j - 1) + 1) (by omega)
  have hchunk : memRead s (2 * (j - 1)) 2 = some [a, b] := (Memory.readRange_two _ _ _ _).2 ⟨ha, hb⟩
  refine ⟨a, b, ha, hb, ?_⟩
  rw [lineT10, if_pos h, hchunk, Option.bind_some, decodeTemperature_two]

theorem lineT10_of_no_chunk (h : ¬ (1 ≤ j ∧ j ≤ lineCnt s.cfgAmask)) : lineT10 s j = none := if_neg h

theorem lineHas_of_not_address (h : ¬ (1 ≤ j ∧ j ≤ 4)) : lineHas s j = none := if_neg h

end Line

/-- Settles O50: the outputs are R171's, and LINE_CNT, at most 4, splits the addresses. -/
theorem lineChunksGoToConsecutiveAddresses : Obligations.LineChunksGoToConsecutiveAddresses := by
  intro s hvalid hkind hcmd j
  obtain ⟨ht10, hhas⟩ := outLine_of_resultOk (resultOkFor_iff.2 ⟨hvalid, hkind, hcmd⟩) j
  have hcnt := lineCnt_le s.cfgAmask
  rw [ht10, hhas]
  refine ⟨fun hchunk => ?_, fun hrest => ?_, fun houtside => ?_⟩
  · obtain ⟨a, b, ha, hb, hvalue⟩ := lineT10_of_chunk hchunk
    exact ⟨a, b, ha, hb, hvalue, (lineHas_eq_some s j true).2 ⟨by omega, decide_eq_true hchunk.2⟩⟩
  · exact ⟨lineT10_of_no_chunk (by omega), (lineHas_eq_some s j false).2 ⟨by omega, decide_eq_false (by omega)⟩⟩
  · exact ⟨lineT10_of_no_chunk (by omega), lineHas_of_not_address (by omega)⟩

end Sys2Proof.Machine
end
section
/-! PROOFS. The family 43_exchange_fsm.md, the invariants: R216 and what makes it inductive, part by part through a step, and the
registers of an exchange, state by state. -/

namespace Sys2Proof.Machine

open Safety

/-! ### The invariants, part by part -/

/-- R216 on the buffer's registers (R32). -/
def BufferBounded (s : State) : Prop := s.rlen.toNat ≤ 8 ∧ (s.rovf = true → s.rlen.toNat = 8)

/-- The line is open and the receive path registered (R216). -/
def WindowOpen (s : State) : Prop := s.lineOpen = true ∧ s.rxEn = true

/-- ELAPSED is a number of polls, at most K (R210, R216). -/
def PollsCounted (s : State) : Prop := ∃ j, j ≤ maxSleeps s.params ∧ s.elapsed = j * s.params.pollMs

/-- What the invariants say of the line, the transmit index and the timer, state by state (R200, R216). -/
def InState (e : ExchState) (s : State) : Prop :=
  match e with
  | .idle => s.lineOpen = false ∧ s.rxEn = false
  | .opening => s.lineOpen = false ∧ s.rxEn = false
  | .arm => s.lineOpen = true ∧ s.rxEn = false
  | .send => WindowOpen s ∧ s.txi.toNat < s.flen.toNat
  | .wait => WindowOpen s ∧ PollsCounted s
  | .sleep => WindowOpen s ∧ PollsCounted s ∧ s.elapsed < s.params.timeoutMs
  | .close => WindowOpen s

/-- The exchange registers are those of a command that the configuration admits (R201, R202). -/
def LatchedRegs (s : State) : Prop :=
  s.flen = frameLen (formatOf s.curCmd) ∧ s.exp.toNat = expLen s.cfgAmask s.curCmd ∧ s.cfgMode = modeOf s.curCmd

/-- A result OK belongs to a complete reply of its command, and no exchange is in flight (R208, R209). -/
def OkIsComplete (s : State) : Prop :=
  s.resValid = true → s.resKind = .ok →
    s.cfgStatus = .ready ∧ s.cfgMode = modeOf s.resCmd ∧ s.rovf = false ∧ s.rlen.toNat = expLen s.cfgAmask s.resCmd ∧ s.st = .idle

section Invariant

variable {s : State}

/-- The invariants' clauses on the line, the transmit index and the timer are one clause for each state. -/
theorem inState_of_inv {e : ExchState} (h : Inv s) (hst : s.st = e) : InState e s := by
  have hwindow (hin : s.st = .send ∨ s.st = .wait ∨ s.st = .sleep ∨ s.st = .close) : WindowOpen s :=
    (h.exchange.window_is_open hin).symm
  cases e with
  | idle => exact h.exchange.idle_is_closed hst
  | opening => exact h.opening_is_closed hst
  | arm => exact h.arm_is_open hst
  | send => exact ⟨hwindow (by simp [hst]), h.send_inside_frame hst⟩
  | wait => exact ⟨hwindow (by simp [hst]), h.exchange.elapsed_counts_polls (.inl hst)⟩
  | sleep =>
    exact ⟨hwindow (by simp [hst]), h.exchange.elapsed_counts_polls (.inr hst), h.sleep_before_deadline hst⟩
  | close => exact hwindow (by simp [hst])

/-- In every state the receive path is registered on an open line only (R216). -/
theorem lineOpen_of_inState {e : ExchState} (h : InState e s) (hrx : s.rxEn = true) : s.lineOpen = true := by
  cases e with
  | idle => exact absurd hrx (by simp [h.2])
  | opening => exact absurd hrx (by simp [h.2])
  | arm => exact h.1
  | send => exact h.1.1
  | wait => exact h.1.1
  | sleep => exact h.1.1
  | close => exact h.1

/-- The parts make the invariants. -/
theorem inv_of_parts (hstate : InState s.st s) (hbuffer : BufferBounded s) (hunready : s.cfgStatus ≠ .ready → s.st = .idle)
    (hpoll : 1 ≤ s.params.pollMs) (hcfg : CfgValid s) (hregs : s.st ≠ .idle → LatchedRegs s) (hok : OkIsComplete s)
    (hwf : s.rb.wf = true) : Inv s := by
  have hat {e : ExchState} (hst : s.st = e) : InState e s := hst ▸ hstate
  have hwindow (hin : s.st = .send ∨ s.st = .wait ∨ s.st = .sleep ∨ s.st = .close) : WindowOpen s := by
    rcases hin with hst | hst | hst | hst
    · exact (hat hst).1
    · exact (hat hst).1
    · exact (hat hst).1
    · exact hat hst
  have hpolls (hin : s.st = .wait ∨ s.st = .sleep) : PollsCounted s := by
    rcases hin with hst | hst
    · exact (hat hst).2
    · exact (hat hst).2.1
  exact
    { exchange := ⟨lineOpen_of_inState hstate, hat, fun hin => (hwindow hin).symm, hbuffer, hpolls, hunready⟩
      poll_positive := hpoll, cfg_valid := hcfg, opening_is_closed := hat, arm_is_open := hat
      sleep_before_deadline := fun hst => (hat hst).2.2, busy_registers := hregs
      send_inside_frame := fun hst => (hat hst).2, ok_is_complete := hok, memory_canonical := hwf }

/-- The registers of a state in which an exchange is in flight. -/
theorem latchedRegs_of_busy (h : Inv s) (hbusy : s.st ≠ .idle) : LatchedRegs s := h.busy_registers hbusy

theorem flen_bounds_of_busy (h : Inv s) (hbusy : s.st ≠ .idle) : 0 < s.flen.toNat ∧ s.flen.toNat ≤ 5 := by
  obtain ⟨hflen, _⟩ := latchedRegs_of_busy h hbusy
  rw [hflen]
  exact frameLen_toNat_bounds _

theorem ready_of_busy (h : Inv s) (hbusy : s.st ≠ .idle) : s.cfgStatus = .ready :=
  by_contra fun hunready => hbusy (h.exchange.unready_is_idle hunready)

/-- ACCEPT has cleared the result that stood before the exchange (R201). -/
theorem no_ok_result_of_busy (h : Inv s) (hbusy : s.st ≠ .idle) : ¬ (s.resValid = true ∧ s.resKind = .ok) := by
  rintro ⟨hvalid, hkind⟩
  obtain ⟨_, _, _, _, hidle⟩ := h.ok_is_complete hvalid hkind
  exact hbusy hidle

theorem no_ok_result_of_unconfigured (h : Inv s) (hfresh : s.cfgStatus = .unconfigured) :
    ¬ (s.resValid = true ∧ s.resKind = .ok) := by
  rintro ⟨hvalid, hkind⟩
  obtain ⟨hready, _⟩ := h.ok_is_complete hvalid hkind
  simp [hready] at hfresh

/-- Where no result OK stands, a step that writes no result leaves none. -/
theorem okIsComplete_of_no_ok_result {t : State} (hno : ¬ (s.resValid = true ∧ s.resKind = .ok)) (hvalid : t.resValid = s.resValid)
    (hkind : t.resKind = s.resKind) : OkIsComplete t := by
  intro hvalid' hkind'
  exact absurd ⟨hvalid ▸ hvalid', hkind ▸ hkind'⟩ hno

theorem busy_of_window (h : Inv s) (hwindow : s.rxEn = true) : s.st ≠ .idle := by
  intro hidle
  obtain ⟨_, hclosed⟩ := h.exchange.idle_is_closed hidle
  simp [hclosed] at hwindow

end Invariant

/-! ### Reset (R37, R270) -/

/-- The state after reset meets the invariants, whatever the other agents hold. -/
theorem inv_reset (p : Params) (port : Option Request) (moves : List Stimulus) (acts : List LineAct) (hpoll : 1 ≤ p.pollMs) :
    Inv { State.reset with params := p, reqPort := port, stimuli := moves, lineLog := acts } :=
  inv_of_parts ⟨rfl, rfl⟩ ⟨Nat.zero_le _, nofun⟩ (fun _ => rfl) hpoll nofun (fun hbusy => absurd rfl hbusy) nofun rfl

/-- Settles O27: the default POLL_MS is 30. -/
theorem resetSatisfiesTheInvariant : Obligations.ResetSatisfiesTheInvariant :=
  inv_reset Config.params none [] [] (by decide : 1 ≤ 30)

theorem step_of_rst {s : State} (hrst : nextMove s = .rst) : step s = resetStep s.dropMove := by
  rcases step_cases s with ⟨_, hmove, _⟩ | ⟨_, hstep⟩
  · simp [hrst] at hmove
  · rw [hstep, hrst, agentStep]

/-- Reset abandons the exchange (R270). -/
theorem resetStep_st {s t : State} (h : resetStep s = .next t) : t.st = .idle := by
  cases h
  rfl

/-- Reset leaves the schedule (log 19). -/
theorem resetStep_stimuli {s t : State} (h : resetStep s = .next t) : t.stimuli = s.stimuli := by
  cases h
  rfl

theorem inv_of_resetStep {s t : State} (hpoll : 1 ≤ s.params.pollMs) (h : resetStep s = .next t) : Inv t := by
  cases h
  exact inv_reset s.params _ _ _ hpoll

/-! ### The deadline, in polls (R210) -/

/-- `j` polls reach the deadline exactly from `j = K` on. -/
theorem timeout_le_polls_iff {p : Params} (hpoll : 1 ≤ p.pollMs) (j : Nat) :
    p.timeoutMs ≤ j * p.pollMs ↔ maxSleeps p ≤ j := by
  rw [maxSleeps, ← Nat.lt_succ_iff (n := j), Nat.div_lt_iff_lt_mul hpoll, Nat.succ_mul]
  omega

/-- A sleep taken before the deadline is one of the K. -/
theorem polls_lt_maxSleeps {p : Params} (hpoll : 1 ≤ p.pollMs) {j : Nat} (hearly : j * p.pollMs < p.timeoutMs) :
    j < maxSleeps p := by
  rw [← not_le, timeout_le_polls_iff hpoll] at hearly
  exact not_le.1 hearly

/-! ### Each part through a step -/

section Step

variable {s t : State}

/-- A buffer that is full, and then overflows, holds eight bytes (R160, R161). -/
theorem step_bufferBounded (h : Inv s) (hstep : step s = .next t) (hrst : nextMove s ≠ .rst) : BufferBounded t := by
  have hbuffer : BufferBounded s := h.exchange.buffer_bounded
  cases step_moved s t hstep
  case openFailed move st => simp [BufferBounded]
  case armed move st => simp [BufferBounded]
  case stored b hroom move window =>
    obtain ⟨_, hfull⟩ := hbuffer
    have hroom' : (s.rlen + 1).toNat ≤ 8 := by bv_omega
    have hkept : s.rovf = false := by
      by_contra hovf
      exact absurd (hfull (by simpa using hovf)) (Nat.ne_of_lt hroom)
    simpa [BufferBounded, hkept] using hroom'
  case overflowed b move window full =>
    obtain ⟨hmax, _⟩ := hbuffer
    simp [BufferBounded, Nat.le_antisymm hmax full]
  case reset move answer => exact absurd move hrst
  all_goals simpa [BufferBounded] using hbuffer

/-- The line, the transmit index and the timer follow ST through R200's table (R203 to R208). -/
theorem step_inState (h : Inv s) (hstep : step s = .next t) (hrst : nextMove s ≠ .rst) : InState t.st t := by
  have hat {e : ExchState} (hst : s.st = e) : InState e s := inState_of_inv h hst
  cases step_moved s t hstep
  case taken r move st port adm => simpa [InState] using hat st
  case opened move st =>
    obtain ⟨_, hrx⟩ := hat st
    simpa [InState] using hrx
  case openFailed move st =>
    obtain ⟨_, hrx⟩ := hat st
    simpa [InState] using hrx
  case armed move st =>
    obtain ⟨hopen, _⟩ := hat st
    obtain ⟨hpos, _⟩ := flen_bounds_of_busy h (by simp [st])
    simp [InState, WindowOpen, hopen, hpos]
  case sent b move st byte last =>
    obtain ⟨hwindow, hinside⟩ := hat st
    have hnext : (s.txi + 1).toNat < s.flen.toNat := by bv_omega
    simpa [InState, WindowOpen, st] using And.intro hwindow hnext
  case sentLast b move st byte last =>
    obtain ⟨hwindow, _⟩ := hat st
    have hpolls : PollsCounted (s.dropMove.emitTx b).nextTx.startTimer := ⟨0, Nat.zero_le _, (Nat.zero_mul _).symm⟩
    simpa [InState, WindowOpen, PollsCounted] using And.intro hwindow hpolls
  case checkedOut move st why =>
    obtain ⟨hwindow, _⟩ := hat st
    simpa [InState, WindowOpen] using hwindow
  case checkedOn move st short early =>
    obtain ⟨hwindow, hpolls⟩ := hat st
    simpa [InState, WindowOpen, PollsCounted] using And.intro hwindow (And.intro hpolls early)
  case ticked move st =>
    obtain ⟨hwindow, ⟨j, _, helapsed⟩, hearly⟩ := hat st
    have hlt : j < maxSleeps s.params := polls_lt_maxSleeps h.poll_positive (helapsed ▸ hearly)
    have hpolls : PollsCounted s.addPoll := ⟨j + 1, hlt, by simp [helapsed, Nat.succ_mul]⟩
    simpa [InState, WindowOpen, PollsCounted] using And.intro hwindow hpolls
  case closed move st => simp [InState]
  case portUnusable m a k move fresh st valid =>
    obtain ⟨_, hrx⟩ := hat st
    simpa [InState, st] using hrx
  case configured m a k move fresh st valid =>
    obtain ⟨_, hrx⟩ := hat st
    simpa [InState, st] using hrx
  case reset move answer => exact absurd move hrst
  all_goals simpa [InState, WindowOpen, PollsCounted] using hat rfl

/-- Only ACCEPT leaves IDLE, and it admits no request of a machine that is not READY (R202). -/
theorem step_unready_is_idle (h : Inv s) (hstep : step s = .next t) (hrst : nextMove s ≠ .rst)
    (hunready : t.cfgStatus ≠ .ready) : t.st = .idle := by
  cases step_moved s t hstep
  case taken r move st port adm =>
    obtain ⟨hready, _⟩ := (admitted_iff _ _).1 adm
    simp [hready] at hunready
  case configRejected m a k ok c move fresh st cause => simp [st]
  case portUnusable m a k move fresh st valid => simp [st]
  case configured m a k move fresh st valid => simp at hunready
  case openFailed move st => simp
  case closed move st => simp
  case reset move answer => exact absurd move hrst
  all_goals
    have hidle : s.st = .idle := h.exchange.unready_is_idle (by simpa using hunready)
    simp_all

/-- A configuration that leads to READY has passed R272. -/
theorem step_cfgValid (h : Inv s) (hstep : step s = .next t) (hrst : nextMove s ≠ .rst) : CfgValid t := by
  cases step_moved s t hstep
  case configRejected m a k ok c move fresh st cause => simp [CfgValid]
  case portUnusable m a k move fresh st valid => simp [CfgValid]
  case configured m a k move fresh st valid =>
    intro _
    cases m with
    | single => simpa using valid
    | line => simpa using valid
  case reset move answer => exact absurd move hrst
  all_goals simpa [CfgValid] using h.cfg_valid

/-- FLEN is the format's (R70, R100). -/
theorem encodeFrame_flen (c : Cmd) (q : Word16) (s : State) : (encodeFrame c q s).flen = frameLen (formatOf c) := rfl

/-- ACCEPT latches the encoding of an admitted command, and no later step of the exchange writes it (R201). -/
theorem step_latchedRegs (h : Inv s) (hstep : step s = .next t) (hrst : nextMove s ≠ .rst) (hbusy : t.st ≠ .idle) :
    LatchedRegs t := by
  cases step_moved s t hstep
  case taken r move st port adm =>
    obtain ⟨_, hmode⟩ := (admitted_iff _ _).1 adm
    have hexp := encodeFrame_exp_toNat (decode r).cmd (decode r).q s
    simp [LatchedRegs, encodeFrame_flen, hexp, hmode]
  case refused r move st port adm => simp [st] at hbusy
  case openFailed move st => simp at hbusy
  case closed move st => simp at hbusy
  case configRejected m a k ok c move fresh st cause => simp [st] at hbusy
  case portUnusable m a k move fresh st valid => simp [st] at hbusy
  case configured m a k move fresh st valid => simp [st] at hbusy
  case reset move answer => exact absurd move hrst
  all_goals simpa [LatchedRegs] using latchedRegs_of_busy h (by simp_all)

theorem resKind_ite_eq_ok_iff (b : Bool) : (if b then ResKind.ok else .fail) = .ok ↔ b = true := by
  cases b <;> simp

theorem isWrite_iff {c : Cmd} : c.isWrite = true ↔ c = .writeEmi ∨ c = .writeTrans := by
  cases c <;> simp [Cmd.isWrite]

/-- CLOSE's `ok` (R208): the reply is complete and, for a write, the echo matches. -/
theorem exchangeOk_iff :
    exchangeOk s = true ↔
      (s.rovf = false ∧ s.rlen = s.exp) ∧ (s.curCmd = .writeEmi ∨ s.curCmd = .writeTrans → echoOk s.curQ s = true) := by
  rw [exchangeOk, Bool.and_eq_true, complete_iff, ← isWrite_iff]
  by_cases hwrite : s.curCmd.isWrite = true <;> simp [hwrite]

/-- CLOSE alone writes a result OK, and only of a complete reply (R208). -/
theorem step_okIsComplete (h : Inv s) (hstep : step s = .next t) (hrst : nextMove s ≠ .rst) : OkIsComplete t := by
  cases step_moved s t hstep
  case refused r move st port adm => simp [OkIsComplete]
  case taken r move st port adm => simp [OkIsComplete]
  case openFailed move st => simp [OkIsComplete]
  case closed move st =>
    intro _ hkind
    have hbusy : s.st ≠ .idle := by simp [st]
    obtain ⟨⟨hovf, hlen⟩, _⟩ := exchangeOk_iff.1 ((resKind_ite_eq_ok_iff _).1 hkind)
    obtain ⟨_, hexp, hmode⟩ := latchedRegs_of_busy h hbusy
    have hready := ready_of_busy h hbusy
    simp [hready, hmode, hovf, hlen, hexp]
  case presented r move => simpa [OkIsComplete] using h.ok_is_complete
  case held move hold port client window config => simpa [OkIsComplete] using h.ok_is_complete
  case stored b hroom move window =>
    exact okIsComplete_of_no_ok_result (no_ok_result_of_busy h (busy_of_window h window)) (by simp) (by simp)
  case overflowed b move window full =>
    exact okIsComplete_of_no_ok_result (no_ok_result_of_busy h (busy_of_window h window)) (by simp) (by simp)
  case configRejected m a k ok c move fresh st cause =>
    exact okIsComplete_of_no_ok_result (no_ok_result_of_unconfigured h fresh) (by simp) (by simp)
  case portUnusable m a k move fresh st valid =>
    exact okIsComplete_of_no_ok_result (no_ok_result_of_unconfigured h fresh) (by simp) (by simp)
  case configured m a k move fresh st valid =>
    exact okIsComplete_of_no_ok_result (no_ok_result_of_unconfigured h fresh) (by simp) (by simp)
  case reset move answer => exact absurd move hrst
  all_goals exact okIsComplete_of_no_ok_result (no_ok_result_of_busy h (by simp [*])) (by simp) (by simp)

end Step

/-- Settles O28: reset meets the invariants, and every other step keeps each part of them. -/
theorem stepKeepsTheInvariant : Obligations.StepKeepsTheInvariant := by
  intro s t h hstep
  by_cases hrst : nextMove s = .rst
  · rw [step_of_rst hrst] at hstep
    exact inv_of_resetStep (s := s.dropMove) h.poll_positive hstep
  · exact inv_of_parts (step_inState h hstep hrst) (step_bufferBounded h hstep hrst) (step_unready_is_idle h hstep hrst)
      (step_params hstep ▸ h.poll_positive) (step_cfgValid h hstep hrst) (step_latchedRegs h hstep hrst)
      (step_okIsComplete h hstep hrst) (stepKeepsMemoryCanonical s t h.memory_canonical hstep)

end Sys2Proof.Machine
end
section
/-! PROOFS. The family 43_exchange_fsm.md, its steps: requests (R201, R202, R214), the steps of an exchange by the move that heads the
schedule (R203 to R208), the moves of ST (R200), the writes of the result registers (R209), the output ports (R217). -/

namespace Sys2Proof.Machine

open Safety

/-! ### Requests (R201, R202, R214) -/

/-- R214: a request that comes during an exchange is held at the port. -/
theorem exec_of_busy (i : Instr) {s : State} (hbusy : s.st ≠ .idle) : exec i s = .next { s with reqPort := some (encode i) } := by
  rw [exec_eq_accept]
  rcases accept_cases i.cmd i.q (encodeFrame i.cmd i.q s) s with ⟨hidle, _⟩ | ⟨hidle, _⟩ | ⟨_, hheld⟩
  · exact absurd hidle hbusy
  · exact absurd hidle hbusy
  · exact hheld

/-- Settles O10: ACCEPT is not enabled outside IDLE, and the client's presentation is a move of its own. -/
theorem busyRequestsAreHeld : Obligations.BusyRequestsAreHeld := by
  refine ⟨fun i s hbusy => ⟨decide_eq_false hbusy, exec_of_busy i hbusy⟩, fun r rest s hhead => ?_⟩
  rw [step_eq_agentStep hhead (.inr nofun)]
  rfl

/-- Settles O12, by what ACCEPT can answer: refused, latched or held. -/
theorem requestsLeaveTheRestAlone : Obligations.RequestsLeaveTheRestAlone := by
  intro i s t h
  rw [exec_eq_accept] at h
  rcases accept_cases i.cmd i.q (encodeFrame i.cmd i.q s) s with
    ⟨hidle, _, hrefused⟩ | ⟨hidle, _, htaken⟩ | ⟨hbusy, hheld⟩
  · cases hrefused.symm.trans h
    simp [cfgRegs, lineRegs, exchangeRegs, SameBytes, hidle]
  · cases htaken.symm.trans h
    simp [cfgRegs, lineRegs, SameBytes, hidle]
  · cases hheld.symm.trans h
    simp [cfgRegs, lineRegs, exchangeRegs, resultRegs, SameBytes, hbusy]

/-! ### The steps of an exchange (R203 to R208) -/

section Steps

variable {s : State} {rest : List Stimulus}

/-- LINE_OPEN raised: the line sees it where it was low (R30, R203). -/
theorem State.setLineOpen_true_eq (s : State) : s.setLineOpen true =
    { s with lineOpen := true, lineLog := s.lineLog ++ (if s.lineOpen then [] else [.raiseOpen]) } := rfl

/-- LINE_OPEN lowered: the line sees it where it was high (R30, R208). -/
theorem State.setLineOpen_false_eq (s : State) : s.setLineOpen false =
    { s with lineOpen := false, lineLog := s.lineLog ++ (if s.lineOpen then [.lowerOpen] else []) } := by
  cases hopen : s.lineOpen <;> simp [State.setLineOpen, hopen]

theorem openStep_true (hst : s.st = .opening) : openStep true s = .next ((s.setLineOpen true).goto .arm) := if_pos hst

theorem openStep_false (hst : s.st = .opening) : openStep false s =
    .next ((((s.setLineOpen true).setLineOpen false).clearBuffer.raiseFail).goto .idle) := if_pos hst

/-- Settles O16: OPEN with either answer. -/
theorem openAnswerArmsOrFails : Obligations.OpenAnswerArmsOrFails := by
  refine fun s rest hst => ⟨fun hhead => ?_, fun hhead => ?_⟩ <;>
    rw [step_eq_agentStep hhead (.inr nofun), agentStep]
  · rw [openStep_true (s := { s with stimuli := rest }) hst, State.setLineOpen_true_eq]
    rfl
  · rw [openStep_false (s := { s with stimuli := rest }) hst, State.setLineOpen_true_eq, State.setLineOpen_false_eq]
    rfl

/-- Settles O17. -/
theorem armClearsAndRegisters : Obligations.ArmClearsAndRegisters :=
  fun _ _ hst hhead => step_of_arm hhead hst

/-- Settles O18: a byte that is not the last, and the last. -/
theorem sendHandsOverTheFrameInOrder : Obligations.SendHandsOverTheFrameInOrder := by
  refine fun s rest b hst hhead hbyte => ⟨fun hmore => ?_, fun hlast => ?_⟩
  · rw [step_of_sent hhead hst hbyte hmore]
    rfl
  · rw [step_of_sentLast hhead hst hbyte hlast]
    simp only [State.emitTx, State.nextTx, State.startTimer, State.goto]

/-- R206 as one choice of the next state: completion is tested before the deadline. -/
theorem checkStep_eq (s : State) : checkStep s =
    .next (s.goto (if s.rovf = false ∧ s.rlen = s.exp then .close else if s.params.timeoutMs ≤ s.elapsed then .close else .sleep)) := by
  unfold checkStep
  simp only [complete_iff, deadlineReached_iff]
  split_ifs <;> rfl

/-- WAIT, whichever way the check ends (R206). -/
theorem step_of_wait (hhead : s.stimuli = .fsm :: rest) (hst : s.st = .wait) : step s = .next
    { s with
      stimuli := rest
      st := if s.rovf = false ∧ s.rlen = s.exp then .close else if s.params.timeoutMs ≤ s.elapsed then .close else .sleep } := by
  rw [step_eq_agentStep hhead (.inl (by simp [hst])), agentStep, fsmStep_of_wait (s := { s with stimuli := rest }) hst, checkStep_eq]
  rfl

/-- Settles O19. -/
theorem checkTestsCompletionThenDeadline : Obligations.CheckTestsCompletionThenDeadline :=
  fun _ _ hst hhead => step_of_wait hhead hst

/-- SLEEP, a tick (R207). -/
theorem step_of_tick (hhead : s.stimuli = .tick :: rest) (hst : s.st = .sleep) :
    step s = .next { s with stimuli := rest, elapsed := s.elapsed + s.params.pollMs, st := .wait } := by
  rw [step_eq_agentStep hhead (.inr nofun), agentStep, sleepStep]
  exact if_pos hst

/-- Settles O20: a tick in SLEEP, and in any other state. -/
theorem tickCountsOnlyInSleep : Obligations.TickCountsOnlyInSleep := by
  refine fun s rest hhead => ⟨step_of_tick hhead, fun hst => ?_⟩
  rw [step_eq_agentStep hhead (.inr nofun), agentStep, sleepStep]
  exact if_neg hst

/-- Settles O21: CLOSE writes one of two results, by `exchangeOk`. -/
theorem closeJudgesTheBufferAsItStands : Obligations.CloseJudgesTheBufferAsItStands := by
  intro s rest hst hhead
  refine ⟨if exchangeOk s then .ok else .fail, ?_, ?_, (resKind_ite_eq_ok_iff _).trans exchangeOk_iff⟩
  · rw [step_eq_agentStep hhead (.inl (by simp [hst])), agentStep, fsmStep_of_close (s := { s with stimuli := rest }) hst,
      closeStep, State.setLineOpen_false_eq]
    rfl
  · cases exchangeOk s <;> simp

end Steps

/-! ### The moves of ST (R200) -/

/-- Settles O26: the row of each step that writes ST; the others leave it. -/
theorem stateMovesFollowTheTable : Obligations.StateMovesFollowTheTable := by
  intro s t h hrst
  cases step_moved s t h
  case taken r move st port adm =>
    obtain ⟨hready, hmode⟩ := (admitted_iff _ s).1 adm
    simp [TableMove, move, st, port, hready, belongs_iff, hmode]
  case opened move st => simp [TableMove, move, st]
  case openFailed move st => simp [TableMove, move, st]
  case armed move st => simp [TableMove, move, st]
  case sentLast b move st byte last => simpa [TableMove, move, st] using last
  case checkedOut move st why => simp [TableMove, move, st, why]
  case checkedOn move st short early => simp [TableMove, move, st, short, early]
  case ticked move st => simp [TableMove, move, st]
  case closed move st => simp [TableMove, move, st]
  case reset move answer => exact absurd move hrst
  all_goals exact .inl (by simp)

/-! ### The result registers (R209) -/

/-- Settles O35: the steps that write a result register are ACCEPT, a failed open, CLOSE and reset. -/
theorem resultHoldsUntilTheNextAccept : Obligations.ResultHoldsUntilTheNextAccept := by
  intro s t h hchange
  cases step_moved s t h
  case refused r move st port adm => exact .inr (.inl ⟨move, st, by simp [port]⟩)
  case taken r move st port adm => exact .inr (.inl ⟨move, st, by simp [port]⟩)
  case openFailed move st => exact .inr (.inr (.inl ⟨move, st⟩))
  case closed move st => exact .inr (.inr (.inr ⟨move, st⟩))
  case reset move answer => exact .inl move
  all_goals simp [resultRegs] at hchange

/-! ### The output ports (R217) -/

/-- In SEND there is a byte to hand over: TXI is below FLEN, and no frame is longer than FRAME (R205). -/
theorem frame_byte_of_send {s : State} (h : Inv s) (hst : s.st = .send) : (s.frame.get s.txi.toNat).isSome = true := by
  have hinside := h.send_inside_frame hst
  obtain ⟨_, hmax⟩ := flen_bounds_of_busy h (by simp [hst])
  rw [FrameRegs.get_isSome, decide_eq_true_eq]
  omega

/-- `res_bytes` lists RB (R217). -/
theorem ports_resBytes (s : State) {k : Nat} (hk : k < 8) : (ports s).resBytes[k]? = s.rb.read k := by
  simp [ports, Memory.read, Config.rbCap, hk]

/-- Settles O53: each port is its register. -/
theorem portsFollowTheRegisters : Obligations.PortsFollowTheRegisters :=
  fun s => ⟨rfl, rfl, rfl, rfl, rfl, rfl, rfl, rfl, decide_eq_true_iff, decide_eq_true_iff, rfl, frame_byte_of_send, rfl,
    fun _ => ports_resBytes s⟩

end Sys2Proof.Machine
end
section
/-! PROOFS. The family 43_exchange_fsm.md, the deadline (R206, R210) and the end of an exchange (R213, R215). -/

namespace Sys2Proof.Machine

open Safety

/-! ### The deadline after K polls (R210) -/

/-- K polls stay below the deadline plus one poll. -/
theorem maxSleeps_mul_pollMs_lt {p : Params} (hpoll : 1 ≤ p.pollMs) : maxSleeps p * p.pollMs < p.timeoutMs + p.pollMs := by
  have hle : maxSleeps p * p.pollMs ≤ p.timeoutMs + p.pollMs - 1 := Nat.div_mul_le_self _ _
  omega

/-- WAIT after `j` polls, the reply not complete: the deadline exit is taken exactly from `j = K` on. -/
theorem step_of_wait_polls {s : State} {rest : List Stimulus} {j : Nat} (hhead : s.stimuli = .fsm :: rest) (hst : s.st = .wait)
    (hshort : complete s = false) (hpoll : 1 ≤ s.params.pollMs) (helapsed : s.elapsed = j * s.params.pollMs) :
    step s = .next { s with stimuli := rest, st := if maxSleeps s.params ≤ j then .close else .sleep } := by
  have hincomplete : ¬ (s.rovf = false ∧ s.rlen = s.exp) := by simp [← complete_iff, hshort]
  rw [step_of_wait hhead hst]
  simp only [if_neg hincomplete, helapsed, timeout_le_polls_iff hpoll]

/-- The sleep an exchange has taken is at most K polls (R216). -/
theorem elapsed_le_maxSleeps {s : State} (h : Inv s) (hst : s.st = .wait ∨ s.st = .sleep) :
    s.elapsed ≤ maxSleeps s.params * s.params.pollMs := by
  obtain ⟨j, hj, helapsed⟩ := h.exchange.elapsed_counts_polls hst
  rw [helapsed]
  exact Nat.mul_le_mul_right _ hj

/-- K at R7's defaults, of 1000 ms in polls of 30 ms. -/
theorem maxSleeps_default : maxSleeps Config.params = 34 := by
  simp [maxSleeps, Config.params]

/-- Settles O38. -/
theorem deadlineAfterKPolls : Obligations.DeadlineAfterKPolls :=
  ⟨fun _ j hpoll => ⟨timeout_le_polls_iff hpoll j, maxSleeps_mul_pollMs_lt hpoll⟩,
    fun _ _ _ hst hhead hshort hpoll helapsed => step_of_wait_polls hhead hst hshort hpoll helapsed,
    fun _ h hst => elapsed_le_maxSleeps h hst, maxSleeps_default⟩

/-! ### The FSM steps left (R215), state by state -/

section StepsLeft

variable {s : State}

theorem fsmStepsLeft_of_idle (hst : s.st = .idle) : fsmStepsLeft s = 0 := by
  simp only [fsmStepsLeft, hst]

theorem fsmStepsLeft_of_opening (hst : s.st = .opening) : fsmStepsLeft s = s.flen.toNat + 2 * maxSleeps s.params + 4 := by
  simp only [fsmStepsLeft, hst]

theorem fsmStepsLeft_of_arm (hst : s.st = .arm) : fsmStepsLeft s = s.flen.toNat + 2 * maxSleeps s.params + 3 := by
  simp only [fsmStepsLeft, hst]

theorem fsmStepsLeft_of_send (hst : s.st = .send) :
    fsmStepsLeft s = (s.flen.toNat - s.txi.toNat) + 2 * maxSleeps s.params + 2 := by
  simp only [fsmStepsLeft, hst]

theorem fsmStepsLeft_of_wait (hst : s.st = .wait) : fsmStepsLeft s = 2 * sleepsLeft s + 2 := by
  simp only [fsmStepsLeft, hst]

theorem fsmStepsLeft_of_sleep (hst : s.st = .sleep) : fsmStepsLeft s = 2 * sleepsLeft s + 1 := by
  simp only [fsmStepsLeft, hst]

theorem fsmStepsLeft_of_close (hst : s.st = .close) : fsmStepsLeft s = 1 := by
  simp only [fsmStepsLeft, hst]

/-- No step is left exactly in IDLE. -/
theorem fsmStepsLeft_eq_zero_iff : fsmStepsLeft s = 0 ↔ s.st = .idle := by
  cases hst : s.st <;> simp [fsmStepsLeft, hst]

/-- The deadline timer at its start allows K sleeps. -/
theorem sleepsLeft_of_elapsed_zero (helapsed : s.elapsed = 0) : sleepsLeft s = maxSleeps s.params := by
  simp [sleepsLeft, maxSleeps, helapsed]

/-- A poll before the deadline uses one of the sleeps up. -/
theorem sleepsLeft_addPoll_lt (hpoll : 1 ≤ s.params.pollMs) (hearly : s.elapsed < s.params.timeoutMs) :
    sleepsLeft s.addPoll < sleepsLeft s := by
  simp only [sleepsLeft, State.addPoll_elapsed, State.addPoll_params]
  have hshift : s.params.timeoutMs - s.elapsed + s.params.pollMs - 1 = s.params.timeoutMs - s.elapsed - 1 + s.params.pollMs := by
    omega
  have hquot := Nat.lt_div_mul_add (a := s.params.timeoutMs - s.elapsed - 1) hpoll
  rw [hshift, Nat.add_div_right _ hpoll, Nat.div_lt_iff_lt_mul hpoll, Nat.succ_mul]
  omega

end StepsLeft

/-- ACCEPT leaves FLEN + 2K + 4 steps (R215). -/
theorem fsmStepsLeft_of_accepted {i : Instr} {s t : State} (hidle : s.st = .idle) (h : exec i s = .next t)
    (hopening : t.st = .opening) :
    fsmStepsLeft t = t.flen.toNat + 2 * maxSleeps s.params + 4 ∧ t.flen.toNat ≤ 5 := by
  obtain ⟨hready, hmode⟩ := admitted_of_exec_opening hidle h hopening
  cases (exec_of_admitted hidle hready hmode).symm.trans h
  obtain ⟨_, hmax⟩ := frameLen_toNat_bounds (formatOf i.cmd)
  refine ⟨fsmStepsLeft_of_opening rfl, ?_⟩
  simpa [encodeFrame_flen] using hmax

/-! ### One step, and the number of steps left (R200, R215) -/

section Step

variable {s t : State}

/-- Of an exchange in flight, a step either is the FSM's, enabled by its move, and uses up a step that was left, or it leaves ST and
the number alone. -/
theorem step_fsmStepsLeft_cases (h : Inv s) (hbusy : s.st ≠ .idle) (hstep : step s = .next t) (hrst : nextMove s ≠ .rst) :
    (enables (nextMove s) s.st = true ∧ fsmStepsLeft t < fsmStepsLeft s) ∨
    (enables (nextMove s) s.st = false ∧ fsmStepsLeft t = fsmStepsLeft s ∧ t.st = s.st) := by
  cases step_moved s t hstep
  case opened move st =>
    refine .inl ⟨by simp [move, st, enables], ?_⟩
    rw [fsmStepsLeft_of_opening st, fsmStepsLeft_of_arm (State.goto_st _ _)]
    simp
  case openFailed move st =>
    refine .inl ⟨by simp [move, st, enables], ?_⟩
    rw [fsmStepsLeft_of_opening st, fsmStepsLeft_of_idle (State.goto_st _ _)]
    exact Nat.succ_pos _
  case armed move st =>
    refine .inl ⟨by simp [move, st, enables], ?_⟩
    rw [fsmStepsLeft_of_arm st, fsmStepsLeft_of_send (State.goto_st _ _)]
    simp
  case sent b move st byte last =>
    have hinside := h.send_inside_frame st
    have hnext : (s.txi + 1).toNat = s.txi.toNat + 1 := by bv_omega
    refine .inl ⟨by simp [move, st, enables], ?_⟩
    rw [fsmStepsLeft_of_send st, fsmStepsLeft_of_send (by simpa using st)]
    simp only [State.nextTx_txi, State.emitTx_txi, State.dropMove_txi, State.nextTx_flen, State.emitTx_flen, State.dropMove_flen,
      State.nextTx_params, State.emitTx_params, State.dropMove_params, hnext]
    omega
  case sentLast b move st byte last =>
    have hinside := h.send_inside_frame st
    refine .inl ⟨by simp [move, st, enables], ?_⟩
    rw [fsmStepsLeft_of_send st, fsmStepsLeft_of_wait (State.goto_st _ _), sleepsLeft_of_elapsed_zero (by simp)]
    simp only [State.goto_params, State.startTimer_params, State.nextTx_params, State.emitTx_params, State.dropMove_params]
    omega
  case checkedOut move st why =>
    refine .inl ⟨by simp [move, st, enables], ?_⟩
    rw [fsmStepsLeft_of_wait st, fsmStepsLeft_of_close (State.goto_st _ _)]
    omega
  case checkedOn move st short early =>
    refine .inl ⟨by simp [move, st, enables], ?_⟩
    rw [fsmStepsLeft_of_wait st, fsmStepsLeft_of_sleep (State.goto_st _ _)]
    simp [sleepsLeft]
  case ticked move st =>
    have hlt : sleepsLeft s.addPoll < sleepsLeft s := sleepsLeft_addPoll_lt h.poll_positive (h.sleep_before_deadline st)
    have hsleeps : sleepsLeft (s.dropMove.addPoll.goto .wait) = sleepsLeft s.addPoll := by simp [sleepsLeft]
    refine .inl ⟨by simp [move, st, enables], ?_⟩
    rw [fsmStepsLeft_of_sleep st, fsmStepsLeft_of_wait (State.goto_st _ _), hsleeps]
    omega
  case closed move st =>
    refine .inl ⟨by simp [move, st, enables], ?_⟩
    rw [fsmStepsLeft_of_close st, fsmStepsLeft_of_idle (State.goto_st _ _)]
    exact Nat.one_pos
  case stored b hroom move window =>
    exact .inr ⟨by simp [move, enables], by simp [fsmStepsLeft, sleepsLeft], by simp⟩
  case overflowed b move window full =>
    exact .inr ⟨by simp [move, enables], by simp [fsmStepsLeft, sleepsLeft], by simp⟩
  case presented r move =>
    exact .inr ⟨by simp [move, enables], by simp [fsmStepsLeft, sleepsLeft], by simp⟩
  case held move hold port client window config =>
    exact .inr ⟨hold, by simp [fsmStepsLeft, sleepsLeft], by simp⟩
  case reset move answer => exact absurd move hrst
  all_goals contradiction

/-- Settles O39. -/
theorem everyEnabledStepComesCloser : Obligations.EveryEnabledStepComesCloser := by
  refine ⟨fun i s t hidle h hopening => fsmStepsLeft_of_accepted hidle h hopening, fun s t h hbusy hstep hrst => ?_⟩
  rcases step_fsmStepsLeft_cases h hbusy hstep hrst with ⟨henabled, hlt⟩ | ⟨hdisabled, heq, hst⟩
  · exact ⟨fun _ => hlt, fun hdisabled => by simp [henabled] at hdisabled⟩
  · exact ⟨fun henabled => by simp [hdisabled] at henabled, fun _ => ⟨heq, hst⟩⟩

/-! ### No step stops (R216) -/

/-- From a state that meets the invariants every step answers a next state: the one fault needs a TXI outside FRAME. -/
theorem exists_next_of_inv (h : Inv s) : ∃ t, step s = .next t := by
  rcases step_cases s with ⟨r, _, _, _, hstep⟩ | ⟨_, hstep⟩
  · rw [hstep, exec_eq_accept]
    rcases accept_cases (decode r).cmd (decode r).q (encodeFrame (decode r).cmd (decode r).q s.dropMove.takeRequest)
      s.dropMove.takeRequest with ⟨_, _, hnext⟩ | ⟨_, _, hnext⟩ | ⟨_, hnext⟩
    all_goals exact ⟨_, hnext⟩
  · rw [hstep]
    cases hmove : nextMove s with
    | rst => exact ⟨_, rfl⟩
    | config b a k ok =>
      rcases configureStep_cases (modeOfCode b) a k ok s.dropMove with
        ⟨_, _, _, _, hnext⟩ | ⟨_, _, _, _, hnext⟩ | ⟨_, _, _, _, hnext⟩ | ⟨_, hnext⟩
      all_goals exact ⟨_, hnext⟩
    | request r => exact ⟨_, rfl⟩
    | openAns ok =>
      rcases openStep_cases ok s.dropMove with ⟨_, _, hnext⟩ | ⟨_, _, hnext⟩ | ⟨_, hnext⟩
      all_goals exact ⟨_, hnext⟩
    | txReady =>
      rcases sendStep_cases s.dropMove with ⟨hst, hnone, _⟩ | ⟨_, _, _, _, hnext⟩ | ⟨_, _, _, _, hnext⟩ | ⟨_, hnext⟩
      · have hbyte := frame_byte_of_send h hst
        rw [State.dropMove_frame, State.dropMove_txi] at hnone
        simp [hnone] at hbyte
      all_goals exact ⟨_, hnext⟩
    | rx b =>
      rcases rxStep_cases b s.dropMove with ⟨_, _, hnext⟩ | ⟨_, _, hnext⟩ | ⟨_, hnext⟩
      all_goals exact ⟨_, hnext⟩
    | tick =>
      rcases sleepStep_cases s.dropMove with ⟨_, hnext⟩ | ⟨_, hnext⟩
      all_goals exact ⟨_, hnext⟩
    | fsm =>
      cases hst : s.st with
      | wait =>
        exact ⟨_, (fsmStep_of_wait (s := s.dropMove) hst).trans (checkStep_eq s.dropMove)⟩
      | arm => exact ⟨_, fsmStep_of_arm (s := s.dropMove) hst⟩
      | close => exact ⟨_, fsmStep_of_close (s := s.dropMove) hst⟩
      | _ => exact ⟨s.dropMove, by simp [agentStep, fsmStep, hst]⟩

/-- Every step uses up the move that heads the schedule, and places none (log 1). -/
theorem step_stimuli (hstep : step s = .next t) : t.stimuli = s.stimuli.tail := by
  cases step_moved s t hstep
  case reset move answer => rw [resetStep_stimuli answer, State.dropMove_stimuli]
  all_goals simp

end Step

/-! ### Fair stretches of the schedule (R213, R215) -/

/-- A fair stretch enables the FSM's step, whichever state of an exchange it meets. -/
theorem exists_enables_of_fairRound {l : List Stimulus} (hfair : FairRound l) {e : ExchState} (hbusy : e ≠ .idle) :
    ∃ m ∈ l, enables m e = true := by
  obtain ⟨⟨ok, hans⟩, htx, htick, hfsm⟩ := hfair
  cases e with
  | idle => exact absurd rfl hbusy
  | opening => exact ⟨_, hans, rfl⟩
  | arm => exact ⟨_, hfsm, rfl⟩
  | send => exact ⟨_, htx, rfl⟩
  | wait => exact ⟨_, hfsm, rfl⟩
  | sleep => exact ⟨_, htick, rfl⟩
  | close => exact ⟨_, hfsm, rfl⟩

/-- Along a stretch of the schedule either IDLE is reached, or the whole stretch runs without a step added to those that are left,
and one or more are used up where a move of the stretch enables the FSM's step. -/
theorem run_stretch {l rest : List Stimulus} {s : State} (h : Inv s) (hstim : s.stimuli = l ++ rest) :
    ∃ n t, n ≤ l.length ∧ run n s = .next t ∧ Inv t ∧
      (t.st = .idle ∨ (t.stimuli = rest ∧ fsmStepsLeft t ≤ fsmStepsLeft s ∧
        ((∃ m ∈ l, enables m s.st = true) → fsmStepsLeft t < fsmStepsLeft s))) := by
  induction l generalizing s with
  | nil => exact ⟨0, s, Nat.zero_le _, rfl, h, .inr ⟨hstim, Nat.le_refl _, by simp⟩⟩
  | cons m l ih =>
    by_cases hidle : s.st = .idle
    case pos => exact ⟨0, s, Nat.zero_le _, rfl, h, .inl hidle⟩
    case neg =>
      have hmove : nextMove s = m := nextMove_of_cons hstim
      obtain ⟨u, hstep⟩ := exists_next_of_inv h
      have hinv := stepKeepsTheInvariant s u h hstep
      by_cases hrst : nextMove s = .rst
      case pos =>
        refine ⟨1, u, Nat.succ_le_succ (Nat.zero_le _), run_next 0 s u hstep, hinv, .inl ?_⟩
        exact resetStep_st ((step_of_rst hrst).symm.trans hstep)
      case neg =>
        have hrest : u.stimuli = l ++ rest := by rw [step_stimuli hstep, hstim, List.cons_append, List.tail_cons]
        obtain ⟨n, t, hn, hrun, hinv', hend⟩ := ih hinv hrest
        refine ⟨n + 1, t, Nat.succ_le_succ hn, (run_next n s u hstep).trans hrun, hinv', hend.imp_right ?_⟩
        rintro ⟨hstim', hle, hcloser⟩
        rcases step_fsmStepsLeft_cases h hidle hstep hrst with ⟨_, hlt⟩ | ⟨hdisabled, heq, hst⟩
        · exact ⟨hstim', by omega, fun _ => by omega⟩
        · rw [hmove] at hdisabled
          refine ⟨hstim', by omega, ?_⟩
          rintro ⟨m', hm', henabled⟩
          have hm : m' ∈ l := (List.mem_cons.1 hm').resolve_left fun heq => by simp [heq, hdisabled] at henabled
          exact (hcloser ⟨m', hm, hst ▸ henabled⟩).trans_eq heq

/-- Settles O40, by induction on the stretches: each one reaches IDLE or uses up a step that is left, and none is left in IDLE alone. -/
theorem fairExchangesReturnToIdle : Obligations.FairExchangesReturnToIdle := by
  intro rounds
  induction rounds with
  | nil =>
    intro rest s _ _ _ hleft
    exact ⟨0, s, Nat.zero_le _, rfl, fsmStepsLeft_eq_zero_iff.1 (Nat.le_zero.1 hleft)⟩
  | cons r rounds ih =>
    intro rest s h hstim hfair hleft
    by_cases hidle : s.st = .idle
    case pos => exact ⟨0, s, Nat.zero_le _, rfl, hidle⟩
    case neg =>
      rw [List.flatten_cons, List.append_assoc] at hstim
      rw [List.flatten_cons, List.length_append]
      obtain ⟨n, t, hn, hrun, hinv, hreached | ⟨hstim', _, hcloser⟩⟩ := run_stretch h hstim
      · exact ⟨n, t, Nat.le_add_right_of_le hn, hrun, hreached⟩
      · have hlt := hcloser (exists_enables_of_fairRound (hfair r List.mem_cons_self) hidle)
        rw [List.length_cons] at hleft
        obtain ⟨n', t', hn', hrun', hreached⟩ :=
          ih rest t hinv hstim' (fun r' hr' => hfair r' (List.mem_cons_of_mem r hr')) (by omega)
        exact ⟨n + n', t', Nat.add_le_add hn hn', (run_add n n' s t hrun).trans hrun', hreached⟩

end Sys2Proof.Machine
end
section
/-! PROOFS. The family 43_exchange_fsm.md, an exchange that nobody answers: K sleeps, then FAIL (R206, R210, R242). -/

namespace Sys2Proof.Machine

open Safety

/-- A check that finds nothing, then a tick (R206, R207). -/
def sleepRounds (n : Nat) : List Stimulus := (List.replicate n [.fsm, .tick]).flatten

theorem silentSchedule_eq (flen n : Nat) :
    silentSchedule flen n =
      [Stimulus.fsm, .openAns true, .fsm] ++ List.replicate flen Stimulus.txReady ++ sleepRounds n ++ [Stimulus.fsm, .fsm] := rfl

theorem sleepRounds_succ (n : Nat) : sleepRounds (n + 1) = .fsm :: .tick :: sleepRounds n := rfl

/-- A reply that is awaited has at least one byte (R211): the broadcast read's set is not empty. -/
theorem expLen_pos {c : Cmd} {m : CfgMode} {a : BitVec 3} {k : BitVec 4} (hvalid : m.Valid a k) (hmode : m = modeOf c) :
    0 < expLen k c := by
  subst hmode
  cases c
  case readTempLine => exact Nat.mul_pos Nat.two_pos (lineCnt_pos hvalid)
  all_goals simp [expLen, Config.lenTemp, Config.lenSn, Config.lenFw, Config.lenRatio]

/-- An empty buffer is no complete reply. -/
theorem complete_of_empty {s : State} (hempty : s.rlen = 0) (hexp : 0 < s.exp.toNat) : complete s = false := by
  refine (complete_eq_false_iff s).2 (.inr fun heq => ?_)
  simp [← heq, hempty] at hexp

theorem exchangeOk_of_incomplete {s : State} (hshort : complete s = false) : exchangeOk s = false := by
  simp [exchangeOk, hshort]

/-- As long as the deadline allows it, each check sleeps and each tick counts one poll; nothing else changes. -/
theorem run_sleepRounds {s : State} {rest : List Stimulus} {j n : Nat} (hpoll : 1 ≤ s.params.pollMs) (hst : s.st = .wait)
    (hshort : complete s = false) (helapsed : s.elapsed = j * s.params.pollMs) (hmax : j + n ≤ maxSleeps s.params)
    (hstim : s.stimuli = sleepRounds n ++ rest) :
    run (sleepRounds n).length s = .next { s with stimuli := rest, elapsed := (j + n) * s.params.pollMs } := by
  induction n generalizing s j with
  | zero =>
    have hstim' : s.stimuli = rest := hstim
    rw [Nat.add_zero, ← helapsed, ← hstim']
    rfl
  | succ n ih =>
    rw [sleepRounds_succ] at hstim ⊢
    have hcheck := step_of_wait_polls (rest := .tick :: (sleepRounds n ++ rest)) hstim hst hshort hpoll helapsed
    rw [if_neg (by omega)] at hcheck
    have htick := step_of_tick (s := { s with stimuli := .tick :: (sleepRounds n ++ rest), st := .sleep })
      (rest := sleepRounds n ++ rest) rfl rfl
    have hsleep : run 2 s = .next { s with stimuli := sleepRounds n ++ rest, elapsed := s.elapsed + s.params.pollMs } := by
      rw [run_next 1 _ _ hcheck, run_next 0 _ _ htick, run_zero, hst]
    have hshort' : complete { s with stimuli := sleepRounds n ++ rest, elapsed := s.elapsed + s.params.pollMs } = false := by
      simpa only [complete] using hshort
    have hmax' : j + 1 + n ≤ maxSleeps s.params := by omega
    have hrest := ih (s := { s with stimuli := sleepRounds n ++ rest, elapsed := s.elapsed + s.params.pollMs }) (j := j + 1)
      hpoll hst hshort' (by rw [helapsed, Nat.succ_mul]) hmax' rfl
    rw [List.length_cons, List.length_cons, Nat.add_comm _ 2, run_add 2 _ _ _ hsleep, hrest, Nat.add_right_comm, Nat.add_assoc]

/-- The check at the deadline leaves an incomplete reply to CLOSE, which fails it (R206, R208, R242). -/
theorem run_expired {s : State} {rest : List Stimulus} (hpoll : 1 ≤ s.params.pollMs) (hst : s.st = .wait)
    (hshort : complete s = false) (helapsed : s.elapsed = maxSleeps s.params * s.params.pollMs)
    (hstim : s.stimuli = [Stimulus.fsm, .fsm] ++ rest) (hopen : s.lineOpen = true) :
    run 2 s = .next
      { s with
        stimuli := rest, lineOpen := false, rxEn := false, resKind := .fail, resCmd := s.curCmd
        resValid := true, st := .idle, lineLog := s.lineLog ++ [.lowerOpen] } := by
  have hcheck := step_of_wait_polls (rest := .fsm :: rest) hstim hst hshort hpoll helapsed
  rw [if_pos (Nat.le_refl _)] at hcheck
  have hshort' : complete { s with stimuli := .fsm :: rest, st := .close } = false := by simpa only [complete] using hshort
  have hclose := step_of_close (s := { s with stimuli := .fsm :: rest, st := .close }) (rest := rest) rfl rfl hopen
  rw [exchangeOk_of_incomplete hshort', if_neg Bool.false_ne_true] at hclose
  rw [run_next 1 _ _ hcheck, run_next 0 _ _ hclose, run_zero]

/-- A reply that never comes: K sleeps, and CLOSE fails the exchange (R210, R242). -/
theorem run_unanswered {s : State} {p : Params} {rest : List Stimulus} (hparams : s.params = p) (hpoll : 1 ≤ p.pollMs)
    (hst : s.st = .wait) (hshort : complete s = false) (hstart : s.elapsed = 0) (hopen : s.lineOpen = true)
    (hstim : s.stimuli = sleepRounds (maxSleeps p) ++ ([Stimulus.fsm, .fsm] ++ rest)) :
    run (sleepRounds (maxSleeps p) ++ [Stimulus.fsm, .fsm]).length s = .next
      { s with
        stimuli := rest, elapsed := maxSleeps p * p.pollMs, lineOpen := false, rxEn := false, resKind := .fail
        resCmd := s.curCmd, resValid := true, st := .idle, lineLog := s.lineLog ++ [.lowerOpen] } := by
  subst hparams
  have hsleeps := run_sleepRounds (j := 0) hpoll hst hshort (by simp [hstart]) (Nat.zero_add _).le hstim
  rw [Nat.zero_add] at hsleeps
  refine run_append hsleeps (run_expired hpoll hst ?_ rfl rfl hopen)
  simpa only [complete] using hshort

theorem frameSent_params (s : State) (i : Instr) (rest : List Stimulus) : (frameSent s i rest).params = s.params := rfl

/-- Settles O42: the frame goes out, K sleeps pass, and the last check finds the deadline reached. -/
theorem silentExchangeFailsAfterKSleeps : Obligations.SilentExchangeFailsAfterKSleeps := by
  intro s i rest hinv hidle hready hbelongs hport hstim
  have hmode := belongs_iff.1 hbelongs
  obtain ⟨hclosed, _⟩ := hinv.exchange.idle_is_closed hidle
  have hexp : 0 < (encodeFrame i.cmd i.q s).exp.toNat := by
    rw [encodeFrame_exp_toNat]
    exact expLen_pos (hinv.cfg_valid hready) hmode
  rw [silentSchedule_eq, List.append_assoc, List.append_assoc] at hstim
  have hsent := run_frameSent hidle hready hmode hport hclosed hstim
  have hunanswered := run_unanswered (rest := rest) (frameSent_params s i _) hinv.poll_positive rfl
    (complete_of_empty rfl hexp) rfl rfl rfl
  rw [silentSchedule_eq, List.append_assoc]
  exact ⟨_, run_append hsent hunanswered, rfl, rfl, rfl, by simp [frameSent, exchangeActs], rfl⟩

end Sys2Proof.Machine
end

section
/-! PROOFS. The family 60_exceptions.md: the refusal of a request (R241, R244), the one fault shut out (R216, R249), CONFIG_ERROR
through a step (R241, R271), a standing OK result decoded (R173, R243) and the codes (R245). -/

namespace Sys2Proof.Machine

open Safety

/-! ### Refusal (R241, R244) -/

/-- A request that the configuration does not admit is answered at ACCEPT, without an exchange (R201, R202, R244). -/
theorem exec_of_not_admitted {i : Instr} {s : State} (hidle : s.st = .idle) (hadm : admitted i.cmd s ≠ true) :
    exec i s = .next { s with resValid := true, resKind := .refused, resCmd := i.cmd } := by
  rw [exec_eq_accept]
  rcases accept_cases i.cmd i.q (encodeFrame i.cmd i.q s) s with ⟨_, _, hrefused⟩ | ⟨_, htaken, _⟩ | ⟨hbusy, _⟩
  · exact hrefused
  · exact absurd htaken hadm
  · exact absurd hidle hbusy

theorem not_admitted_of_unready {c : Cmd} {s : State} (hunready : s.cfgStatus ≠ .ready) : admitted c s ≠ true := by
  intro hadm
  obtain ⟨hready, _⟩ := (admitted_iff c s).1 hadm
  exact hunready hready

theorem not_admitted_of_not_belongs {c : Cmd} {s : State} (hmode : ¬ Belongs c s.cfgMode) : admitted c s ≠ true := by
  intro hadm
  obtain ⟨_, hown⟩ := (admitted_iff c s).1 hadm
  exact hmode (belongs_iff.2 hown)

/-- Settles O9: either ground shuts the request out of ACCEPT's admission. -/
theorem requestsOutOfModeAreRefused : Obligations.RequestsOutOfModeAreRefused := by
  rintro i s hidle (hunready | hmode)
  · exact exec_of_not_admitted hidle (not_admitted_of_unready hunready)
  · exact exec_of_not_admitted hidle (not_admitted_of_not_belongs hmode)

/-! ### No step stops (R216, R249) -/

/-- Settles O29: the model's one fault is SEND's, which the invariants shut out. -/
theorem invariantStatesNeverStop : Obligations.InvariantStatesNeverStop := fun _ => exists_next_of_inv

/-! ### CONFIG_ERROR through a step (R241, R271) -/

section ConfigError

variable {s t : State}

/-- In CONFIG_ERROR and IDLE no step but `rst` starts an exchange or moves the line: no request is admitted, and no configuration is
taken. -/
theorem step_of_configError_idle (herror : s.cfgStatus = .configError) (hidle : s.st = .idle) (h : step s = .next t)
    (hrst : nextMove s ≠ .rst) : t.st = .idle ∧ t.lineLog = s.lineLog := by
  cases step_moved s t h
  case taken r move st port adm => exact absurd adm (not_admitted_of_unready (by simp [herror]))
  case reset move answer => exact absurd move hrst
  case refused | stored | overflowed | presented | held => exact ⟨hidle, rfl⟩
  -- What is left is enabled in UNCONFIGURED alone or outside IDLE alone.
  all_goals simp_all only [reduceCtorEq]

/-- A request that the FSM takes up in CONFIG_ERROR is refused (R241). -/
theorem step_resultRegs_of_configError {r : Request} (herror : s.cfgStatus = .configError) (hidle : s.st = .idle)
    (h : step s = .next t) (hmove : nextMove s = .fsm) (hport : s.reqPort = some r) :
    resultRegs t = (true, .refused, (decode r).cmd) := by
  have hrefused := exec_of_not_admitted (i := decode r) (s := s.dropMove.takeRequest) hidle
    (not_admitted_of_unready (by simp [herror]))
  rw [step_of_fsm_idle_presented hmove hidle hport, hrefused] at h
  cases h
  rfl

end ConfigError

/-- Settles O33: the configuration registers stay as in every configured machine, and no request passes admission. -/
theorem configErrorIsSticky : Obligations.ConfigErrorIsSticky := by
  intro s t herror h hrst
  have hkept : cfgRegs t = cfgRegs s := step_cfgRegs_of_configured h hrst (by simp [herror])
  obtain ⟨_, _, _, hstatus, hcause⟩ := cfgRegs_eq_iff.1 hkept
  exact ⟨hstatus.trans herror, hcause, fun hidle => step_of_configError_idle herror hidle h hrst,
    fun _ hidle hmove hport => step_resultRegs_of_configError herror hidle h hmove hport⟩

/-! ### A standing OK result decodes (R164, R169, R173, R243) -/

/-- A range that stays inside RB reads as many bytes as it spans (R50). -/
theorem Memory.exists_readRange (m : Memory) {i n : Nat} (hroom : i + n ≤ 8) :
    ∃ bytes, m.readRange i n = some bytes ∧ bytes.length = n := by
  induction n generalizing i with
  | zero => exact ⟨[], rfl, rfl⟩
  | succ n ih =>
    obtain ⟨b, hb⟩ := m.exists_read (a := i) (by omega)
    obtain ⟨bs, hbs, hlen⟩ := ih (i := i + 1) (by omega)
    exact ⟨b :: bs, by simp only [Memory.readRange, hb, hbs], by rw [List.length_cons, hlen]⟩

/-- FW of a reply of two bytes, as an integer (R169). -/
theorem decodeFirmware_of_length (f : Bool) {bytes : List Byte} (hlen : bytes.length = 2) :
    decodeFirmware f bytes = some
      (if f = true ∧ 0x8000 ≤ decodeInteger bytes then (decodeInteger bytes : Int) - 65536 else (decodeInteger bytes : Int)) := by
  obtain ⟨w, hword, hvalue⟩ := decodeRatio_toNat hlen
  rw [decodeFirmware, decodeFirmwareWord_eq_decodeRatio, hword, Option.map_some, ← hvalue]
  cases f with
  | false => simp
  | true => simp only [sint16, ← Nat.not_le, ite_not, if_true, true_and]

section StandingOutputs

variable {s : State} {bytes : List Byte}

theorem outT10_of_resultOk (h : resultOkFor s .readTemp = true) (hread : memRead s 0 2 = some bytes) :
    outT10 s = decodeTemperature bytes := by
  simp [outT10, h, hread]

theorem outSN_of_resultOk (h : resultOkFor s .readSerial = true) (hread : memRead s 0 3 = some bytes) :
    outSN s = decodeSerial bytes := by
  simp [outSN, h, hread]

theorem outFWW_of_resultOk (h : resultOkFor s .readFw = true) (hread : memRead s 0 2 = some bytes) :
    outFWW s = decodeFirmwareWord bytes := by
  simp [outFWW, h, hread]

theorem outFW_of_resultOk (h : resultOkFor s .readFw = true) (hread : memRead s 0 2 = some bytes) :
    outFW s = decodeFirmware s.params.fwSigned bytes := by
  simp [outFW, h, hread]

theorem outR1000_of_resultOk (h : resultOkFor s .readEmi = true ∨ resultOkFor s .readTrans = true)
    (hread : memRead s 0 2 = some bytes) : outR1000 s = decodeRatio bytes := by
  simp [outR1000, h, hread]

end StandingOutputs

/-- A chunk that the reply has is a temperature, and an address without one has none (R171). -/
theorem lineT10_isSome (s : State) (j : Nat) : (lineT10 s j).isSome = decide (1 ≤ j ∧ j ≤ lineCnt s.cfgAmask) := by
  by_cases hchunk : 1 ≤ j ∧ j ≤ lineCnt s.cfgAmask
  · obtain ⟨_, _, _, _, hvalue⟩ := lineT10_of_chunk hchunk
    simp [hvalue, hchunk]
  · rw [lineT10_of_no_chunk hchunk, decide_eq_false hchunk, Option.isSome_none]

/-- Settles O52: a result OK is of a complete reply, RB holds it, and its length is the one its command's unpacker asks for. -/
theorem okResultsAlwaysDecode : Obligations.OkResultsAlwaysDecode := by
  intro s hinv hvalid hkind
  obtain ⟨_, _, _, hexp, _⟩ := hinv.ok_is_complete hvalid hkind
  obtain ⟨hmax, _⟩ := hinv.exchange.buffer_bounded
  obtain ⟨bytes, hread, hlen⟩ := s.rb.exists_readRange (i := 0) (n := s.rlen.toNat) (by omega)
  have hok {c : Cmd} (hcmd : s.resCmd = c) : resultOkFor s c = true := resultOkFor_iff.2 ⟨hvalid, hkind, hcmd⟩
  have hreply {c : Cmd} (hcmd : s.resCmd = c) :
      memRead s 0 (expLen s.cfgAmask c) = some bytes ∧ bytes.length = expLen s.cfgAmask c := by
    rw [← hcmd, ← hexp]
    exact ⟨hread, hlen⟩
  refine ⟨bytes, hread, hlen.trans hexp, fun hcmd => ?_, fun hcmd => ?_, fun hcmd => ?_, fun hcmd => ?_, fun hcmd j => ?_⟩
  · obtain ⟨htwo, hwidth⟩ := hreply hcmd
    exact (outT10_of_resultOk (hok hcmd) htwo).trans (decodeTemperature_of_length hwidth)
  · obtain ⟨hthree, hwidth⟩ := hreply hcmd
    exact (outSN_of_resultOk (hok hcmd) hthree).trans (decodeSerial_of_length hwidth)
  · obtain ⟨htwo, hwidth⟩ := hreply hcmd
    have hfw := outFW_of_resultOk (hok hcmd) htwo
    exact ⟨(outFWW_of_resultOk (hok hcmd) htwo).trans (decodeRatio_of_length hwidth), hfw,
      hfw.trans (decodeFirmware_of_length _ hwidth)⟩
  · obtain ⟨htwo, hwidth⟩ : memRead s 0 2 = some bytes ∧ bytes.length = 2 := hcmd.elim hreply hreply
    exact (outR1000_of_resultOk (hcmd.imp hok hok) htwo).trans (decodeRatio_of_length hwidth)
  · obtain ⟨ht10, hhas⟩ := outLine_of_resultOk (hok hcmd) j
    rw [ht10, hhas]
    exact ⟨lineT10_isSome s j, fun hfirst hlast => (lineHas_eq_some s j _).2 ⟨⟨hfirst, hlast⟩, rfl⟩⟩

/-! ### The codes (R245) -/

/-- Settles O54: each register has three values, and 3 is the code of none. -/
theorem codesAreTheTables : Obligations.CodesAreTheTables := by
  refine ⟨rfl, rfl, rfl, rfl, rfl, rfl, rfl, rfl, rfl, fun k => ?_, fun k => ?_, fun k => ?_⟩
  all_goals cases k <;> decide

end Sys2Proof.Machine
end

section
/-! PROOFS. The family 70_reset_and_hazards.md: reset (R270), construction (R271 to R273), and a reply that passes its length, at any
time before CLOSE (R275, R276). -/

namespace Sys2Proof.Machine

open Safety

/-! ### Reset (R37, R270) -/

/-- Settles O24: each register is that of `State.reset`; the line's record is the one of lowering LINE_OPEN. -/
theorem resetAbandonsTheExchange : Obligations.ResetAbandonsTheExchange := by
  intro s rest hhead
  have hlog : (s.setLineOpen false).lineLog = s.lineLog ++ (if s.lineOpen then [.lowerOpen] else []) := by
    rw [State.setLineOpen_false_eq]
  exact ⟨_, step_eq_agentStep hhead (.inr nofun), rfl, rfl, rfl, rfl, rfl, rfl, rfl, rfl, rfl, hlog⟩

/-! ### Construction (R271 to R273) -/

section Configure

variable {s : State} {m : CfgMode} {a : BitVec 3} {k : BitVec 4} {ok : Bool} {c : CfgCause} {rest : List Stimulus}

theorem step_of_config (hhead : s.stimuli = .config (modeCode m) a k ok :: rest) :
    step s = configureStep m a k ok { s with stimuli := rest } := by
  rw [step_eq_agentStep hhead (.inr nofun), agentStep, modeOfCode_modeCode]

/-- CONFIGURE is enabled only while UNCONFIGURED and IDLE (R38, R271). -/
theorem configureStep_of_disabled (hdisabled : s.cfgStatus ≠ .unconfigured ∨ s.st ≠ .idle) :
    configureStep m a k ok s = .next s :=
  if_neg (not_and_or.2 hdisabled)

/-- What validation finds wrong ends the construction before any I/O (R272). -/
theorem configureStep_of_cause (hfresh : s.cfgStatus = .unconfigured) (hidle : s.st = .idle) (hcause : configCause m a k = some c) :
    configureStep m a k ok s = .next (s.raiseConfigError c) := by
  simp only [configureStep, hfresh, hidle, hcause, and_self, if_true]

/-- A valid configuration goes on by the answer to its probe (R271, R273). -/
theorem configureStep_of_valid (hfresh : s.cfgStatus = .unconfigured) (hidle : s.st = .idle) (hvalid : m.Valid a k) :
    configureStep m a k ok s =
      .next (if ok then s.probe.setConfig m a k else s.probe.raiseConfigError .portUnusable) := by
  simp only [configureStep, hfresh, hidle, (configCause_none_iff m a k).2 hvalid, and_self, if_true]
  cases ok <;> rfl

/-- On a closed line the probe leaves a rise and a fall in the line's record, and no register changed (R273). -/
theorem State.probe_of_closed (hclosed : s.lineOpen = false) :
    s.probe = { s with lineLog := s.lineLog ++ [.raiseOpen, .lowerOpen] } := by
  rw [State.probe, State.setLineOpen_true_of_closed hclosed, State.setLineOpen_false_of_open rfl, ← hclosed]
  simp

end Configure

/-- Settles O23: not enabled, rejected by validation, or valid and decided by the probe. -/
theorem configureValidatesThenProbes : Obligations.ConfigureValidatesThenProbes := by
  intro s rest m a k ok hhead
  rw [step_of_config hhead]
  refine ⟨fun hdisabled => configureStep_of_disabled hdisabled, fun hfresh hidle hclosed => ?_⟩
  have hrejected {c : CfgCause} (hcause : configCause m a k = some c) :=
    configureStep_of_cause (s := { s with stimuli := rest }) (ok := ok) hfresh hidle hcause
  have hprobed (hvalid : m.Valid a k) :=
    configureStep_of_valid (s := { s with stimuli := rest }) (ok := ok) hfresh hidle hvalid
  rw [State.probe_of_closed (s := { s with stimuli := rest }) hclosed] at hprobed
  refine ⟨?_, ?_, ?_, ?_, ?_⟩
  · rintro rfl hbad
    exact hrejected (if_neg hbad)
  · rintro rfl hempty
    exact hrejected (if_pos hempty)
  · rintro hvalid rfl
    exact hprobed hvalid
  · rintro hvalid rfl rfl
    exact hprobed hvalid
  · rintro hvalid rfl rfl
    exact hprobed hvalid

/-! ### A reply that has passed its length (R162, R275, R276) -/

/-- The reply has passed its length: it overflowed the buffer, or RB holds more than EXP bytes (R276). -/
def Overlong (s : State) : Prop := s.rovf = true ∨ s.exp.toNat < s.rlen.toNat

section Overlong

variable {s t : State} {b : Byte} {rest : List Stimulus}

theorem complete_of_overlong (hlong : Overlong s) : complete s = false :=
  (complete_eq_false_iff s).2 (hlong.imp_right fun hpast heq => absurd hpast (by simp [heq]))

/-- One more byte after EXP of them is one too many: RLEN, below 8, is counted up without a carry. -/
theorem overlong_storeByte (hpast : s.exp.toNat ≤ s.rlen.toNat) (hroom : s.rlen.toNat < 8) :
    Overlong (s.storeByte ⟨s.rlen.toNat, hroom⟩ b) := by
  have hcount : (s.rlen + 1).toNat = s.rlen.toNat + 1 := by bv_omega
  refine .inr ?_
  rw [State.storeByte_exp, State.storeByte_rlen, hcount]
  exact Nat.lt_succ_of_le hpast

/-- From SEND to CLOSE no step but `rst` makes the reply shorter or EXP larger: ACCEPT, OPEN and ARM, which could, are over (R276). -/
theorem step_overlong (hbuffer : BufferBounded s) (hlong : Overlong s)
    (hin : s.st = .send ∨ s.st = .wait ∨ s.st = .sleep ∨ s.st = .close) (h : step s = .next t) (hrst : nextMove s ≠ .rst) :
    Overlong t := by
  cases step_moved s t h
  case taken r move st port adm => simp [st] at hin
  case openFailed move st => simp [st] at hin
  case armed move st => simp [st] at hin
  case stored b hroom move window =>
    obtain ⟨_, hfull⟩ := hbuffer
    rcases hlong with hovf | hpast
    · exact absurd (hfull hovf) (Nat.ne_of_lt hroom)
    · exact overlong_storeByte (s := s.dropMove) (Nat.le_of_lt hpast) hroom
  case overflowed b move window full => exact .inl rfl
  case reset move answer => exact absurd move hrst
  all_goals simpa [Overlong] using hlong

/-- CLOSE of such a reply answers FAIL (R208, R276). -/
theorem step_of_close_overlong (hmove : nextMove s = .fsm) (hst : s.st = .close) (hlong : Overlong s) :
    ∃ u, step s = .next u ∧ u.st = .idle ∧ resultRegs u = (true, .fail, s.curCmd) := by
  have hbad : exchangeOk s.dropMove = false := exchangeOk_of_incomplete (complete_of_overlong (s := s.dropMove) hlong)
  rcases step_cases s with ⟨_, _, hidle, _⟩ | ⟨_, hstep⟩
  · simp [hst] at hidle
  · rw [hmove, agentStep, fsmStep_of_close (s := s.dropMove) hst, closeStep, hbad] at hstep
    exact ⟨_, hstep, rfl, rfl⟩

/-- The FSM's move is the one way from CLOSE to IDLE, but for `rst` (R200). -/
theorem nextMove_of_close_to_idle (hst : s.st = .close) (h : step s = .next t) (hidle : t.st = .idle) (hrst : nextMove s ≠ .rst) :
    nextMove s = .fsm := by
  rcases stateMovesFollowTheTable s t h hrst with hsame | htable
  · simp [hst, hidle] at hsame
  · simpa [TableMove, hst, hidle] using htable

/-- A byte inside the window after a complete reply makes it over-long; it moves nothing else of the exchange (R160, R161, R275). -/
theorem step_of_late_byte (hhead : s.stimuli = .rx b :: rest) (hwindow : s.rxEn = true) (hcomplete : complete s = true) :
    ∃ t, step s = .next t ∧ Overlong t ∧ t.st = s.st ∧ t.curCmd = s.curCmd ∧ t.stimuli = rest := by
  obtain ⟨_, hlen⟩ := (complete_iff s).1 hcomplete
  by_cases hroom : s.rlen.toNat < 8
  · exact ⟨_, step_of_stored hhead hwindow hroom,
      overlong_storeByte (s := { s with stimuli := rest }) (by simp [hlen]) hroom, rfl, rfl, rfl⟩
  · exact ⟨_, step_of_overflow hhead hwindow (not_lt.1 hroom), .inl rfl, rfl, rfl, rfl⟩

end Overlong

/-- Settles O36: the excess stays until CLOSE, and a reply with an excess is not complete. -/
theorem overlongRepliesNeverComplete : Obligations.OverlongRepliesNeverComplete := by
  intro s t hinv hlong hin h hrst
  refine ⟨complete_of_overlong hlong, step_overlong hinv.buffer_bounded hlong hin h hrst, fun hst hidle => ?_⟩
  obtain ⟨u, hclose, _, hresult⟩ := step_of_close_overlong (nextMove_of_close_to_idle hst h hidle hrst) hst hlong
  cases hclose.symm.trans h
  exact hresult

/-- Settles O37: the byte makes the reply over-long, and CLOSE then fails. -/
theorem lateByteTurnsSuccessIntoFailure : Obligations.LateByteTurnsSuccessIntoFailure := by
  intro s b rest hst hwindow hcomplete _ hhead
  obtain ⟨t, hlate, hlong, hst', hcmd, hhead'⟩ := step_of_late_byte hhead hwindow hcomplete
  obtain ⟨u, hclose, hidle, hresult⟩ := step_of_close_overlong (nextMove_of_cons hhead') (hst'.trans hst) hlong
  have hrun : run 2 s = .next u := by
    rw [run_next 1 s t hlate, run_next 0 t u hclose, run_zero]
  exact ⟨u, hrun, hidle, hcmd ▸ hresult⟩

end Sys2Proof.Machine
end
